-- ==== Sys2Proof/Word.lean ====
section
/-! DEFINITION. The two word types of the machine (00_scope.md R6: DATA_WIDTH 8, ADDR_WIDTH 16). -/
namespace Sys2Proof

/-- A `u8` of the spec (R8): a register, a bus datum. -/
abbrev Byte := BitVec 8

/-- A `u16` of the spec (R8): `PC`, `SP`, a register pair, a bus address. -/
abbrev Word := BitVec 16

end Sys2Proof
end

