-- ==== Sys2Proof/Config.lean ====
section
/-! DEFINITION. The parameters of 00_scope.md R6: the ones the spec fixes, as constants, and the ones it makes
arguments of the model, as the record `Params` that State carries unchanged (log 1). -/
namespace Sys2Proof

namespace Config

/-- TICKS_PER_MCYCLE (R6, fixed). -/
def ticksPerMCycle : Nat := 4

/-- DOTS_PER_LINE (R6, fixed). -/
def dotsPerLine : Nat := 456

/-- LINES_PER_FRAME (R6, fixed). -/
def linesPerFrame : Nat := 154

/-- The number of visible lines, the `LY` at which VBlank is entered (60_exceptions.md R392). -/
def visibleLines : Nat := 144

/-- OAM_DOTS (R6, fixed). -/
def oamDots : Nat := 80

/-- PT_DOTS (R6, fixed). -/
def pixelTransferDots : Nat := 172

/-- The dots of PixelTransfer before the first pixel event (60_exceptions.md R391). -/
def fetchPenaltyDots : Nat := 12

/-- DIV_PERIOD (R6, fixed). -/
def divPeriod : Nat := 256

/-- CLOCK_HZ (R6, fixed). -/
def clockHz : Nat := 4194304

/-- IRQ_SERVICE_MCYCLES (R6, fixed). -/
def irqServiceMCycles : Nat := 5

/-- IF_READ_OR (R6, fixed). -/
def ifReadOr : Byte := 0xE0#8

end Config

/-- STOP_BEHAVIOUR (R6, decided D8; 46_cpu_control.md R332): the three admissible values. -/
inductive StopBehaviour where
  /-- decline to step: the spec's default -/
  | refuse
  /-- fetch and drop the operand byte, nothing else -/
  | nop2
  /-- treat opcode 0x10 as an undefined opcode -/
  | fault
  deriving DecidableEq, Repr

/-- CYCLES (R6, decided D4; 70_reset_and_hazards.md R470; log 13): the spec's table, or the counts of an unprefixed opcode
taken and not taken and of a byte after 0xCB, each list by opcode byte. -/
inductive CycleTable where
  | standard
  | given (whenTaken whenNotTaken prefixed : List Nat)
  deriving DecidableEq, Repr

/-- FLAG_BITS (R6, decided D1): the positions of the four flags in `F`. The document keeps them in the high nibble (10_state.md
R22); `FlagBits.wf` says so. -/
structure FlagBits where
  z : Nat := 7
  n : Nat := 6
  h : Nat := 5
  c : Nat := 4
  deriving DecidableEq, Repr

/-- IMM_ORDER (R6, decided D2): which byte of a 16-bit immediate or 16-bit memory operand lies at the lower address. -/
inductive ByteOrder where
  | lowFirst
  | highFirst
  deriving DecidableEq, Repr

/-- OPCODE_MAP (R6, decided D3; 10_state.md R47): the map of 30_encoding.md, or another one, given as two lists by opcode byte
(of the first byte, of the byte after 0xCB) of the byte that the same instruction has in that map (log 1). -/
inductive OpcodeMap where
  | standard
  | given (first second : List Byte)
  deriving DecidableEq, Repr

/-- The arguments of the model (R6). The defaults are the spec's. -/
structure Params where
  /-- FLAG_BITS (10_state.md R22; D1) -/
  flagBits : FlagBits := {}
  /-- IMM_ORDER (20_memory.md R79; D2) -/
  immOrder : ByteOrder := .lowFirst
  /-- OPCODE_MAP (30_encoding.md R112 to R114; D3) -/
  opcodeMap : OpcodeMap := .standard
  /-- CYCLES (70_reset_and_hazards.md R470; D4) -/
  cycleTable : CycleTable := .standard
  /-- HALT_IDLE_MCYCLES (60_exceptions.md R359; D5) -/
  haltIdleMCycles : Nat := 1
  /-- EI_DELAY = 1 (46_cpu_control.md R334; D7) -/
  eiDelay : Bool := false
  /-- ADDHL_N = clear (43_alu16.md R241; D10) -/
  addHlClearsN : Bool := false
  /-- STOP_BEHAVIOUR (46_cpu_control.md R332; D8) -/
  stopBehaviour : StopBehaviour := .refuse
  /-- IE_WIDTH (10_state.md R31; D14) -/
  ieWidth : Nat := 8
  /-- TAC_READ_OR (20_memory.md R72; D15) -/
  tacReadOr : Byte := 0xF8#8
  /-- STAT_READ_OR (20_memory.md R76; D15) -/
  statReadOr : Byte := 0x80#8
  /-- LCD_FREE_RUN (60_exceptions.md R399; D19) -/
  lcdFreeRun : Bool := true
  /-- FRAME_COUNTER_WIDTH (10_state.md R43; D29); `none` is unbounded -/
  frameWidth : Option Nat := none
  /-- WINDOW_LINE_WIDTH (10_state.md R43; D29); `none` is unbounded -/
  windowLineWidth : Option Nat := none
  deriving DecidableEq, Repr

end Sys2Proof
end

