-- ==== Sys2Proof/Machine/Bits.lean ====
section
/-! DEFINITION. Bit fields, pairing and sign extension (00_scope.md R7, R8; 30_encoding.md R103). -/
namespace Sys2Proof

/-- `{hi, lo}`: the 16-bit value with `hi` in bits 15..8 (R7, R11). -/
def word16 (hi lo : Byte) : Word := hi ++ lo

/-- `v[15:8]`. -/
def hiByte (v : Word) : Byte := v.extractLsb' 8 8

/-- `v[7:0]`. -/
def loByte (v : Word) : Byte := v.extractLsb' 0 8

/-- `sext_16(e)` (R8); added to a 16-bit value it also is the addition of `signed8(e)` modulo 65536. -/
def sext16 (e : Byte) : Word := e.signExtend 16

/-- `zext_16(v)` (R8). -/
def zext16 (v : Byte) : Word := v.setWidth 16

/-- A Boolean as the number 0 or 1 (R8). -/
def bitNat (b : Bool) : Nat := if b then 1 else 0

/-- The fields of an opcode byte (R103). -/
def fieldX (op : Byte) : Nat := (op.extractLsb' 6 2).toNat
def fieldY (op : Byte) : Nat := (op.extractLsb' 3 3).toNat
def fieldZ (op : Byte) : Nat := (op.extractLsb' 0 3).toNat
def fieldP (op : Byte) : Nat := (op.extractLsb' 4 2).toNat
def fieldQ (op : Byte) : Nat := (op.extractLsb' 3 1).toNat

/-! The arguments of Config.lean as operations on bits. -/

/-- Two bytes between ascending addresses and the order low, high: the same exchange both ways (20_memory.md R79). -/
def ByteOrder.pair (o : ByteOrder) (b1 b2 : Byte) : Byte × Byte :=
  match o with
  | .lowFirst => (b1, b2)
  | .highFirst => (b2, b1)

/-- FLAG_BITS the document allows: four places, all in the high nibble (10_state.md R22). -/
def FlagBits.wf (p : FlagBits) : Bool :=
  [p.z, p.n, p.h, p.c].all (fun i => 4 ≤ i && i < 8) && decide [p.z, p.n, p.h, p.c].Nodup

/-- A counter of the given width, wrapping; without a width it does not wrap (D29). -/
def wrapTo (width : Option Nat) (n : Nat) : Nat :=
  match width with
  | some w => n % 2 ^ w
  | none => n

/-- The stored bits of `IE` (D14). -/
def Params.ieMask (p : Params) : Byte := BitVec.ofNat 8 (2 ^ p.ieWidth - 1)

end Sys2Proof
end

