-- ==== Sys2Proof/Syntax.lean ====
section
/-! DEFINITION. The operand tables of 30_encoding.md (R104 to R109) as types, and the instructions: one constructor per row
of opcode_table.json. A name spells the row's assembler text: `mHL` is `(HL)`, `mHLi` is `(HL+)`, `mHLd` is `(HL-)`. -/
namespace Sys2Proof

/-- `r8[i]` for `i != 6`: the seven registers (R104). -/
inductive Reg8 where
  | b | c | d | e | h | l | a
  deriving DecidableEq, Repr

/-- `r8[i]` (R104): a register, or the memory byte at `HL` (index 6). -/
inductive Operand8 where
  | b | c | d | e | h | l | mHL | a
  deriving DecidableEq, Repr

/-- `r16[i]` (R105). -/
inductive Reg16 where
  | bc | de | hl | sp
  deriving DecidableEq, Repr

/-- `r16stk[i]` (R106). -/
inductive Stk16 where
  | bc | de | hl | af
  deriving DecidableEq, Repr

/-- `cc[i]` (R107). -/
inductive Cond where
  | nz | z | nc | c
  deriving DecidableEq, Repr

/-- `alu[i]` (R108). -/
inductive AluOp where
  | add | adc | sub | sbc | and | xor | or | cp
  deriving DecidableEq, Repr

/-- `rot[i]` (R109). -/
inductive RotOp where
  | rlc | rrc | rl | rr | sla | sra | swap | srl
  deriving DecidableEq, Repr

/-- The bit number of BIT, RES and SET (R110). -/
inductive BitNum where
  | b0 | b1 | b2 | b3 | b4 | b5 | b6 | b7
  deriving DecidableEq, Repr

/-- The targets of RST, `8 * y` (45_control_flow.md R311). -/
inductive RstTarget where
  | t00 | t08 | t10 | t18 | t20 | t28 | t30 | t38
  deriving DecidableEq, Repr

/-- The instructions. The eleven `undefined_` constructors are the table's rows for the undefined byte values (R115). The rows
with an immediate come first: Lean's compiler asks for small constructor numbers where there are fields. -/
inductive Instr where
  /-- `LD BC,d16`, 0x01, R181 -/
  | ld_BC_d16 (w : Word)
  /-- `LD B,d8`, 0x06, R142 -/
  | ld_B_d8 (v : Byte)
  /-- `LD (a16),SP`, 0x08, R182 -/
  | ld_ma16_SP (a : Word)
  /-- `LD C,d8`, 0x0E, R142 -/
  | ld_C_d8 (v : Byte)
  /-- `STOP`, 0x10, R332 -/
  | stop (v : Byte)
  /-- `LD DE,d16`, 0x11, R181 -/
  | ld_DE_d16 (w : Word)
  /-- `LD D,d8`, 0x16, R142 -/
  | ld_D_d8 (v : Byte)
  /-- `JR e8`, 0x18, R304 -/
  | jr_e8 (e : Byte)
  /-- `LD E,d8`, 0x1E, R142 -/
  | ld_E_d8 (v : Byte)
  /-- `JR NZ,e8`, 0x20, R305 -/
  | jr_NZ_e8 (e : Byte)
  /-- `LD HL,d16`, 0x21, R181 -/
  | ld_HL_d16 (w : Word)
  /-- `LD H,d8`, 0x26, R142 -/
  | ld_H_d8 (v : Byte)
  /-- `JR Z,e8`, 0x28, R305 -/
  | jr_Z_e8 (e : Byte)
  /-- `LD L,d8`, 0x2E, R142 -/
  | ld_L_d8 (v : Byte)
  /-- `JR NC,e8`, 0x30, R305 -/
  | jr_NC_e8 (e : Byte)
  /-- `LD SP,d16`, 0x31, R181 -/
  | ld_SP_d16 (w : Word)
  /-- `LD (HL),d8`, 0x36, R145 -/
  | ld_mHL_d8 (v : Byte)
  /-- `JR C,e8`, 0x38, R305 -/
  | jr_C_e8 (e : Byte)
  /-- `LD A,d8`, 0x3E, R142 -/
  | ld_A_d8 (v : Byte)
  /-- `JP NZ,a16`, 0xC2, R302 -/
  | jp_NZ_a16 (a : Word)
  /-- `JP a16`, 0xC3, R301 -/
  | jp_a16 (a : Word)
  /-- `CALL NZ,a16`, 0xC4, R307 -/
  | call_NZ_a16 (a : Word)
  /-- `ADD A,d8`, 0xC6, R204 -/
  | add_A_d8 (v : Byte)
  /-- `JP Z,a16`, 0xCA, R302 -/
  | jp_Z_a16 (a : Word)
  /-- `CALL Z,a16`, 0xCC, R307 -/
  | call_Z_a16 (a : Word)
  /-- `CALL a16`, 0xCD, R306 -/
  | call_a16 (a : Word)
  /-- `ADC A,d8`, 0xCE, R205 -/
  | adc_A_d8 (v : Byte)
  /-- `JP NC,a16`, 0xD2, R302 -/
  | jp_NC_a16 (a : Word)
  /-- `CALL NC,a16`, 0xD4, R307 -/
  | call_NC_a16 (a : Word)
  /-- `SUB d8`, 0xD6, R206 -/
  | sub_d8 (v : Byte)
  /-- `JP C,a16`, 0xDA, R302 -/
  | jp_C_a16 (a : Word)
  /-- `CALL C,a16`, 0xDC, R307 -/
  | call_C_a16 (a : Word)
  /-- `SBC A,d8`, 0xDE, R207 -/
  | sbc_A_d8 (v : Byte)
  /-- `LDH (a8),A`, 0xE0, R155 -/
  | ldh_ma8_A (n : Byte)
  /-- `AND d8`, 0xE6, R208 -/
  | and_d8 (v : Byte)
  /-- `ADD SP,e8`, 0xE8, R244 -/
  | add_SP_e8 (e : Byte)
  /-- `LD (a16),A`, 0xEA, R151 -/
  | ld_ma16_A (a : Word)
  /-- `XOR d8`, 0xEE, R209 -/
  | xor_d8 (v : Byte)
  /-- `LDH A,(a8)`, 0xF0, R154 -/
  | ldh_A_ma8 (n : Byte)
  /-- `OR d8`, 0xF6, R210 -/
  | or_d8 (v : Byte)
  /-- `LD HL,SP+e8`, 0xF8, R245 -/
  | ld_HL_SPe8 (e : Byte)
  /-- `LD A,(a16)`, 0xFA, R150 -/
  | ld_A_ma16 (a : Word)
  /-- `CP d8`, 0xFE, R211 -/
  | cp_d8 (v : Byte)
  /-- `NOP`, 0x00, R330 -/
  | nop
  /-- `LD (BC),A`, 0x02, R148 -/
  | ld_mBC_A
  /-- `INC BC`, 0x03, R242 -/
  | inc_BC
  /-- `INC B`, 0x04, R212 -/
  | inc_B
  /-- `DEC B`, 0x05, R214 -/
  | dec_B
  /-- `RLCA`, 0x07, R262 -/
  | rlca
  /-- `ADD HL,BC`, 0x09, R241 -/
  | add_HL_BC
  /-- `LD A,(BC)`, 0x0A, R146 -/
  | ld_A_mBC
  /-- `DEC BC`, 0x0B, R243 -/
  | dec_BC
  /-- `INC C`, 0x0C, R212 -/
  | inc_C
  /-- `DEC C`, 0x0D, R214 -/
  | dec_C
  /-- `RRCA`, 0x0F, R263 -/
  | rrca
  /-- `LD (DE),A`, 0x12, R149 -/
  | ld_mDE_A
  /-- `INC DE`, 0x13, R242 -/
  | inc_DE
  /-- `INC D`, 0x14, R212 -/
  | inc_D
  /-- `DEC D`, 0x15, R214 -/
  | dec_D
  /-- `RLA`, 0x17, R264 -/
  | rla
  /-- `ADD HL,DE`, 0x19, R241 -/
  | add_HL_DE
  /-- `LD A,(DE)`, 0x1A, R147 -/
  | ld_A_mDE
  /-- `DEC DE`, 0x1B, R243 -/
  | dec_DE
  /-- `INC E`, 0x1C, R212 -/
  | inc_E
  /-- `DEC E`, 0x1D, R214 -/
  | dec_E
  /-- `RRA`, 0x1F, R265 -/
  | rra
  /-- `LD (HL+),A`, 0x22, R159 -/
  | ld_mHLi_A
  /-- `INC HL`, 0x23, R242 -/
  | inc_HL
  /-- `INC H`, 0x24, R212 -/
  | inc_H
  /-- `DEC H`, 0x25, R214 -/
  | dec_H
  /-- `DAA`, 0x27, R216 -/
  | daa
  /-- `ADD HL,HL`, 0x29, R241 -/
  | add_HL_HL
  /-- `LD A,(HL+)`, 0x2A, R158 -/
  | ld_A_mHLi
  /-- `DEC HL`, 0x2B, R243 -/
  | dec_HL
  /-- `INC L`, 0x2C, R212 -/
  | inc_L
  /-- `DEC L`, 0x2D, R214 -/
  | dec_L
  /-- `CPL`, 0x2F, R217 -/
  | cpl
  /-- `LD (HL-),A`, 0x32, R157 -/
  | ld_mHLd_A
  /-- `INC SP`, 0x33, R242 -/
  | inc_SP
  /-- `INC (HL)`, 0x34, R213 -/
  | inc_mHL
  /-- `DEC (HL)`, 0x35, R215 -/
  | dec_mHL
  /-- `SCF`, 0x37, R218 -/
  | scf
  /-- `ADD HL,SP`, 0x39, R241 -/
  | add_HL_SP
  /-- `LD A,(HL-)`, 0x3A, R156 -/
  | ld_A_mHLd
  /-- `DEC SP`, 0x3B, R243 -/
  | dec_SP
  /-- `INC A`, 0x3C, R212 -/
  | inc_A
  /-- `DEC A`, 0x3D, R214 -/
  | dec_A
  /-- `CCF`, 0x3F, R219 -/
  | ccf
  /-- `LD B,B`, 0x40, R141 -/
  | ld_B_B
  /-- `LD B,C`, 0x41, R141 -/
  | ld_B_C
  /-- `LD B,D`, 0x42, R141 -/
  | ld_B_D
  /-- `LD B,E`, 0x43, R141 -/
  | ld_B_E
  /-- `LD B,H`, 0x44, R141 -/
  | ld_B_H
  /-- `LD B,L`, 0x45, R141 -/
  | ld_B_L
  /-- `LD B,(HL)`, 0x46, R143 -/
  | ld_B_mHL
  /-- `LD B,A`, 0x47, R141 -/
  | ld_B_A
  /-- `LD C,B`, 0x48, R141 -/
  | ld_C_B
  /-- `LD C,C`, 0x49, R141 -/
  | ld_C_C
  /-- `LD C,D`, 0x4A, R141 -/
  | ld_C_D
  /-- `LD C,E`, 0x4B, R141 -/
  | ld_C_E
  /-- `LD C,H`, 0x4C, R141 -/
  | ld_C_H
  /-- `LD C,L`, 0x4D, R141 -/
  | ld_C_L
  /-- `LD C,(HL)`, 0x4E, R143 -/
  | ld_C_mHL
  /-- `LD C,A`, 0x4F, R141 -/
  | ld_C_A
  /-- `LD D,B`, 0x50, R141 -/
  | ld_D_B
  /-- `LD D,C`, 0x51, R141 -/
  | ld_D_C
  /-- `LD D,D`, 0x52, R141 -/
  | ld_D_D
  /-- `LD D,E`, 0x53, R141 -/
  | ld_D_E
  /-- `LD D,H`, 0x54, R141 -/
  | ld_D_H
  /-- `LD D,L`, 0x55, R141 -/
  | ld_D_L
  /-- `LD D,(HL)`, 0x56, R143 -/
  | ld_D_mHL
  /-- `LD D,A`, 0x57, R141 -/
  | ld_D_A
  /-- `LD E,B`, 0x58, R141 -/
  | ld_E_B
  /-- `LD E,C`, 0x59, R141 -/
  | ld_E_C
  /-- `LD E,D`, 0x5A, R141 -/
  | ld_E_D
  /-- `LD E,E`, 0x5B, R141 -/
  | ld_E_E
  /-- `LD E,H`, 0x5C, R141 -/
  | ld_E_H
  /-- `LD E,L`, 0x5D, R141 -/
  | ld_E_L
  /-- `LD E,(HL)`, 0x5E, R143 -/
  | ld_E_mHL
  /-- `LD E,A`, 0x5F, R141 -/
  | ld_E_A
  /-- `LD H,B`, 0x60, R141 -/
  | ld_H_B
  /-- `LD H,C`, 0x61, R141 -/
  | ld_H_C
  /-- `LD H,D`, 0x62, R141 -/
  | ld_H_D
  /-- `LD H,E`, 0x63, R141 -/
  | ld_H_E
  /-- `LD H,H`, 0x64, R141 -/
  | ld_H_H
  /-- `LD H,L`, 0x65, R141 -/
  | ld_H_L
  /-- `LD H,(HL)`, 0x66, R143 -/
  | ld_H_mHL
  /-- `LD H,A`, 0x67, R141 -/
  | ld_H_A
  /-- `LD L,B`, 0x68, R141 -/
  | ld_L_B
  /-- `LD L,C`, 0x69, R141 -/
  | ld_L_C
  /-- `LD L,D`, 0x6A, R141 -/
  | ld_L_D
  /-- `LD L,E`, 0x6B, R141 -/
  | ld_L_E
  /-- `LD L,H`, 0x6C, R141 -/
  | ld_L_H
  /-- `LD L,L`, 0x6D, R141 -/
  | ld_L_L
  /-- `LD L,(HL)`, 0x6E, R143 -/
  | ld_L_mHL
  /-- `LD L,A`, 0x6F, R141 -/
  | ld_L_A
  /-- `LD (HL),B`, 0x70, R144 -/
  | ld_mHL_B
  /-- `LD (HL),C`, 0x71, R144 -/
  | ld_mHL_C
  /-- `LD (HL),D`, 0x72, R144 -/
  | ld_mHL_D
  /-- `LD (HL),E`, 0x73, R144 -/
  | ld_mHL_E
  /-- `LD (HL),H`, 0x74, R144 -/
  | ld_mHL_H
  /-- `LD (HL),L`, 0x75, R144 -/
  | ld_mHL_L
  /-- `HALT`, 0x76, R331 -/
  | halt
  /-- `LD (HL),A`, 0x77, R144 -/
  | ld_mHL_A
  /-- `LD A,B`, 0x78, R141 -/
  | ld_A_B
  /-- `LD A,C`, 0x79, R141 -/
  | ld_A_C
  /-- `LD A,D`, 0x7A, R141 -/
  | ld_A_D
  /-- `LD A,E`, 0x7B, R141 -/
  | ld_A_E
  /-- `LD A,H`, 0x7C, R141 -/
  | ld_A_H
  /-- `LD A,L`, 0x7D, R141 -/
  | ld_A_L
  /-- `LD A,(HL)`, 0x7E, R143 -/
  | ld_A_mHL
  /-- `LD A,A`, 0x7F, R141 -/
  | ld_A_A
  /-- `ADD A,B`, 0x80, R204 -/
  | add_A_B
  /-- `ADD A,C`, 0x81, R204 -/
  | add_A_C
  /-- `ADD A,D`, 0x82, R204 -/
  | add_A_D
  /-- `ADD A,E`, 0x83, R204 -/
  | add_A_E
  /-- `ADD A,H`, 0x84, R204 -/
  | add_A_H
  /-- `ADD A,L`, 0x85, R204 -/
  | add_A_L
  /-- `ADD A,(HL)`, 0x86, R204 -/
  | add_A_mHL
  /-- `ADD A,A`, 0x87, R204 -/
  | add_A_A
  /-- `ADC A,B`, 0x88, R205 -/
  | adc_A_B
  /-- `ADC A,C`, 0x89, R205 -/
  | adc_A_C
  /-- `ADC A,D`, 0x8A, R205 -/
  | adc_A_D
  /-- `ADC A,E`, 0x8B, R205 -/
  | adc_A_E
  /-- `ADC A,H`, 0x8C, R205 -/
  | adc_A_H
  /-- `ADC A,L`, 0x8D, R205 -/
  | adc_A_L
  /-- `ADC A,(HL)`, 0x8E, R205 -/
  | adc_A_mHL
  /-- `ADC A,A`, 0x8F, R205 -/
  | adc_A_A
  /-- `SUB B`, 0x90, R206 -/
  | sub_B
  /-- `SUB C`, 0x91, R206 -/
  | sub_C
  /-- `SUB D`, 0x92, R206 -/
  | sub_D
  /-- `SUB E`, 0x93, R206 -/
  | sub_E
  /-- `SUB H`, 0x94, R206 -/
  | sub_H
  /-- `SUB L`, 0x95, R206 -/
  | sub_L
  /-- `SUB (HL)`, 0x96, R206 -/
  | sub_mHL
  /-- `SUB A`, 0x97, R206 -/
  | sub_A
  /-- `SBC A,B`, 0x98, R207 -/
  | sbc_A_B
  /-- `SBC A,C`, 0x99, R207 -/
  | sbc_A_C
  /-- `SBC A,D`, 0x9A, R207 -/
  | sbc_A_D
  /-- `SBC A,E`, 0x9B, R207 -/
  | sbc_A_E
  /-- `SBC A,H`, 0x9C, R207 -/
  | sbc_A_H
  /-- `SBC A,L`, 0x9D, R207 -/
  | sbc_A_L
  /-- `SBC A,(HL)`, 0x9E, R207 -/
  | sbc_A_mHL
  /-- `SBC A,A`, 0x9F, R207 -/
  | sbc_A_A
  /-- `AND B`, 0xA0, R208 -/
  | and_B
  /-- `AND C`, 0xA1, R208 -/
  | and_C
  /-- `AND D`, 0xA2, R208 -/
  | and_D
  /-- `AND E`, 0xA3, R208 -/
  | and_E
  /-- `AND H`, 0xA4, R208 -/
  | and_H
  /-- `AND L`, 0xA5, R208 -/
  | and_L
  /-- `AND (HL)`, 0xA6, R208 -/
  | and_mHL
  /-- `AND A`, 0xA7, R208 -/
  | and_A
  /-- `XOR B`, 0xA8, R209 -/
  | xor_B
  /-- `XOR C`, 0xA9, R209 -/
  | xor_C
  /-- `XOR D`, 0xAA, R209 -/
  | xor_D
  /-- `XOR E`, 0xAB, R209 -/
  | xor_E
  /-- `XOR H`, 0xAC, R209 -/
  | xor_H
  /-- `XOR L`, 0xAD, R209 -/
  | xor_L
  /-- `XOR (HL)`, 0xAE, R209 -/
  | xor_mHL
  /-- `XOR A`, 0xAF, R209 -/
  | xor_A
  /-- `OR B`, 0xB0, R210 -/
  | or_B
  /-- `OR C`, 0xB1, R210 -/
  | or_C
  /-- `OR D`, 0xB2, R210 -/
  | or_D
  /-- `OR E`, 0xB3, R210 -/
  | or_E
  /-- `OR H`, 0xB4, R210 -/
  | or_H
  /-- `OR L`, 0xB5, R210 -/
  | or_L
  /-- `OR (HL)`, 0xB6, R210 -/
  | or_mHL
  /-- `OR A`, 0xB7, R210 -/
  | or_A
  /-- `CP B`, 0xB8, R211 -/
  | cp_B
  /-- `CP C`, 0xB9, R211 -/
  | cp_C
  /-- `CP D`, 0xBA, R211 -/
  | cp_D
  /-- `CP E`, 0xBB, R211 -/
  | cp_E
  /-- `CP H`, 0xBC, R211 -/
  | cp_H
  /-- `CP L`, 0xBD, R211 -/
  | cp_L
  /-- `CP (HL)`, 0xBE, R211 -/
  | cp_mHL
  /-- `CP A`, 0xBF, R211 -/
  | cp_A
  /-- `RET NZ`, 0xC0, R309 -/
  | ret_NZ
  /-- `POP BC`, 0xC1, R185 -/
  | pop_BC
  /-- `PUSH BC`, 0xC5, R184 -/
  | push_BC
  /-- `RST 0x00`, 0xC7, R311 -/
  | rst_00
  /-- `RET Z`, 0xC8, R309 -/
  | ret_Z
  /-- `RET`, 0xC9, R308 -/
  | ret
  /-- `RST 0x08`, 0xCF, R311 -/
  | rst_08
  /-- `RET NC`, 0xD0, R309 -/
  | ret_NC
  /-- `POP DE`, 0xD1, R185 -/
  | pop_DE
  /-- `UNDEFINED_D3`, 0xD3, R336 -/
  | undefined_D3
  /-- `PUSH DE`, 0xD5, R184 -/
  | push_DE
  /-- `RST 0x10`, 0xD7, R311 -/
  | rst_10
  /-- `RET C`, 0xD8, R309 -/
  | ret_C
  /-- `RETI`, 0xD9, R310 -/
  | reti
  /-- `UNDEFINED_DB`, 0xDB, R336 -/
  | undefined_DB
  /-- `UNDEFINED_DD`, 0xDD, R336 -/
  | undefined_DD
  /-- `RST 0x18`, 0xDF, R311 -/
  | rst_18
  /-- `POP HL`, 0xE1, R185 -/
  | pop_HL
  /-- `LDH (C),A`, 0xE2, R153 -/
  | ldh_mC_A
  /-- `UNDEFINED_E3`, 0xE3, R336 -/
  | undefined_E3
  /-- `UNDEFINED_E4`, 0xE4, R336 -/
  | undefined_E4
  /-- `PUSH HL`, 0xE5, R184 -/
  | push_HL
  /-- `RST 0x20`, 0xE7, R311 -/
  | rst_20
  /-- `JP HL`, 0xE9, R303 -/
  | jp_HL
  /-- `UNDEFINED_EB`, 0xEB, R336 -/
  | undefined_EB
  /-- `UNDEFINED_EC`, 0xEC, R336 -/
  | undefined_EC
  /-- `UNDEFINED_ED`, 0xED, R336 -/
  | undefined_ED
  /-- `RST 0x28`, 0xEF, R311 -/
  | rst_28
  /-- `POP AF`, 0xF1, R186 -/
  | pop_AF
  /-- `LDH A,(C)`, 0xF2, R152 -/
  | ldh_A_mC
  /-- `DI`, 0xF3, R333 -/
  | di
  /-- `UNDEFINED_F4`, 0xF4, R336 -/
  | undefined_F4
  /-- `PUSH AF`, 0xF5, R184 -/
  | push_AF
  /-- `RST 0x30`, 0xF7, R311 -/
  | rst_30
  /-- `LD SP,HL`, 0xF9, R183 -/
  | ld_SP_HL
  /-- `EI`, 0xFB, R334 -/
  | ei
  /-- `UNDEFINED_FC`, 0xFC, R336 -/
  | undefined_FC
  /-- `UNDEFINED_FD`, 0xFD, R336 -/
  | undefined_FD
  /-- `RST 0x38`, 0xFF, R311 -/
  | rst_38
  /-- `RLC B`, 0xCB00, R266 -/
  | rlc_B
  /-- `RLC C`, 0xCB01, R266 -/
  | rlc_C
  /-- `RLC D`, 0xCB02, R266 -/
  | rlc_D
  /-- `RLC E`, 0xCB03, R266 -/
  | rlc_E
  /-- `RLC H`, 0xCB04, R266 -/
  | rlc_H
  /-- `RLC L`, 0xCB05, R266 -/
  | rlc_L
  /-- `RLC (HL)`, 0xCB06, R266 -/
  | rlc_mHL
  /-- `RLC A`, 0xCB07, R266 -/
  | rlc_A
  /-- `RRC B`, 0xCB08, R267 -/
  | rrc_B
  /-- `RRC C`, 0xCB09, R267 -/
  | rrc_C
  /-- `RRC D`, 0xCB0A, R267 -/
  | rrc_D
  /-- `RRC E`, 0xCB0B, R267 -/
  | rrc_E
  /-- `RRC H`, 0xCB0C, R267 -/
  | rrc_H
  /-- `RRC L`, 0xCB0D, R267 -/
  | rrc_L
  /-- `RRC (HL)`, 0xCB0E, R267 -/
  | rrc_mHL
  /-- `RRC A`, 0xCB0F, R267 -/
  | rrc_A
  /-- `RL B`, 0xCB10, R268 -/
  | rl_B
  /-- `RL C`, 0xCB11, R268 -/
  | rl_C
  /-- `RL D`, 0xCB12, R268 -/
  | rl_D
  /-- `RL E`, 0xCB13, R268 -/
  | rl_E
  /-- `RL H`, 0xCB14, R268 -/
  | rl_H
  /-- `RL L`, 0xCB15, R268 -/
  | rl_L
  /-- `RL (HL)`, 0xCB16, R268 -/
  | rl_mHL
  /-- `RL A`, 0xCB17, R268 -/
  | rl_A
  /-- `RR B`, 0xCB18, R269 -/
  | rr_B
  /-- `RR C`, 0xCB19, R269 -/
  | rr_C
  /-- `RR D`, 0xCB1A, R269 -/
  | rr_D
  /-- `RR E`, 0xCB1B, R269 -/
  | rr_E
  /-- `RR H`, 0xCB1C, R269 -/
  | rr_H
  /-- `RR L`, 0xCB1D, R269 -/
  | rr_L
  /-- `RR (HL)`, 0xCB1E, R269 -/
  | rr_mHL
  /-- `RR A`, 0xCB1F, R269 -/
  | rr_A
  /-- `SLA B`, 0xCB20, R270 -/
  | sla_B
  /-- `SLA C`, 0xCB21, R270 -/
  | sla_C
  /-- `SLA D`, 0xCB22, R270 -/
  | sla_D
  /-- `SLA E`, 0xCB23, R270 -/
  | sla_E
  /-- `SLA H`, 0xCB24, R270 -/
  | sla_H
  /-- `SLA L`, 0xCB25, R270 -/
  | sla_L
  /-- `SLA (HL)`, 0xCB26, R270 -/
  | sla_mHL
  /-- `SLA A`, 0xCB27, R270 -/
  | sla_A
  /-- `SRA B`, 0xCB28, R271 -/
  | sra_B
  /-- `SRA C`, 0xCB29, R271 -/
  | sra_C
  /-- `SRA D`, 0xCB2A, R271 -/
  | sra_D
  /-- `SRA E`, 0xCB2B, R271 -/
  | sra_E
  /-- `SRA H`, 0xCB2C, R271 -/
  | sra_H
  /-- `SRA L`, 0xCB2D, R271 -/
  | sra_L
  /-- `SRA (HL)`, 0xCB2E, R271 -/
  | sra_mHL
  /-- `SRA A`, 0xCB2F, R271 -/
  | sra_A
  /-- `SWAP B`, 0xCB30, R272 -/
  | swap_B
  /-- `SWAP C`, 0xCB31, R272 -/
  | swap_C
  /-- `SWAP D`, 0xCB32, R272 -/
  | swap_D
  /-- `SWAP E`, 0xCB33, R272 -/
  | swap_E
  /-- `SWAP H`, 0xCB34, R272 -/
  | swap_H
  /-- `SWAP L`, 0xCB35, R272 -/
  | swap_L
  /-- `SWAP (HL)`, 0xCB36, R272 -/
  | swap_mHL
  /-- `SWAP A`, 0xCB37, R272 -/
  | swap_A
  /-- `SRL B`, 0xCB38, R273 -/
  | srl_B
  /-- `SRL C`, 0xCB39, R273 -/
  | srl_C
  /-- `SRL D`, 0xCB3A, R273 -/
  | srl_D
  /-- `SRL E`, 0xCB3B, R273 -/
  | srl_E
  /-- `SRL H`, 0xCB3C, R273 -/
  | srl_H
  /-- `SRL L`, 0xCB3D, R273 -/
  | srl_L
  /-- `SRL (HL)`, 0xCB3E, R273 -/
  | srl_mHL
  /-- `SRL A`, 0xCB3F, R273 -/
  | srl_A
  /-- `BIT 0,B`, 0xCB40, R274 -/
  | bit_0_B
  /-- `BIT 0,C`, 0xCB41, R274 -/
  | bit_0_C
  /-- `BIT 0,D`, 0xCB42, R274 -/
  | bit_0_D
  /-- `BIT 0,E`, 0xCB43, R274 -/
  | bit_0_E
  /-- `BIT 0,H`, 0xCB44, R274 -/
  | bit_0_H
  /-- `BIT 0,L`, 0xCB45, R274 -/
  | bit_0_L
  /-- `BIT 0,(HL)`, 0xCB46, R274 -/
  | bit_0_mHL
  /-- `BIT 0,A`, 0xCB47, R274 -/
  | bit_0_A
  /-- `BIT 1,B`, 0xCB48, R274 -/
  | bit_1_B
  /-- `BIT 1,C`, 0xCB49, R274 -/
  | bit_1_C
  /-- `BIT 1,D`, 0xCB4A, R274 -/
  | bit_1_D
  /-- `BIT 1,E`, 0xCB4B, R274 -/
  | bit_1_E
  /-- `BIT 1,H`, 0xCB4C, R274 -/
  | bit_1_H
  /-- `BIT 1,L`, 0xCB4D, R274 -/
  | bit_1_L
  /-- `BIT 1,(HL)`, 0xCB4E, R274 -/
  | bit_1_mHL
  /-- `BIT 1,A`, 0xCB4F, R274 -/
  | bit_1_A
  /-- `BIT 2,B`, 0xCB50, R274 -/
  | bit_2_B
  /-- `BIT 2,C`, 0xCB51, R274 -/
  | bit_2_C
  /-- `BIT 2,D`, 0xCB52, R274 -/
  | bit_2_D
  /-- `BIT 2,E`, 0xCB53, R274 -/
  | bit_2_E
  /-- `BIT 2,H`, 0xCB54, R274 -/
  | bit_2_H
  /-- `BIT 2,L`, 0xCB55, R274 -/
  | bit_2_L
  /-- `BIT 2,(HL)`, 0xCB56, R274 -/
  | bit_2_mHL
  /-- `BIT 2,A`, 0xCB57, R274 -/
  | bit_2_A
  /-- `BIT 3,B`, 0xCB58, R274 -/
  | bit_3_B
  /-- `BIT 3,C`, 0xCB59, R274 -/
  | bit_3_C
  /-- `BIT 3,D`, 0xCB5A, R274 -/
  | bit_3_D
  /-- `BIT 3,E`, 0xCB5B, R274 -/
  | bit_3_E
  /-- `BIT 3,H`, 0xCB5C, R274 -/
  | bit_3_H
  /-- `BIT 3,L`, 0xCB5D, R274 -/
  | bit_3_L
  /-- `BIT 3,(HL)`, 0xCB5E, R274 -/
  | bit_3_mHL
  /-- `BIT 3,A`, 0xCB5F, R274 -/
  | bit_3_A
  /-- `BIT 4,B`, 0xCB60, R274 -/
  | bit_4_B
  /-- `BIT 4,C`, 0xCB61, R274 -/
  | bit_4_C
  /-- `BIT 4,D`, 0xCB62, R274 -/
  | bit_4_D
  /-- `BIT 4,E`, 0xCB63, R274 -/
  | bit_4_E
  /-- `BIT 4,H`, 0xCB64, R274 -/
  | bit_4_H
  /-- `BIT 4,L`, 0xCB65, R274 -/
  | bit_4_L
  /-- `BIT 4,(HL)`, 0xCB66, R274 -/
  | bit_4_mHL
  /-- `BIT 4,A`, 0xCB67, R274 -/
  | bit_4_A
  /-- `BIT 5,B`, 0xCB68, R274 -/
  | bit_5_B
  /-- `BIT 5,C`, 0xCB69, R274 -/
  | bit_5_C
  /-- `BIT 5,D`, 0xCB6A, R274 -/
  | bit_5_D
  /-- `BIT 5,E`, 0xCB6B, R274 -/
  | bit_5_E
  /-- `BIT 5,H`, 0xCB6C, R274 -/
  | bit_5_H
  /-- `BIT 5,L`, 0xCB6D, R274 -/
  | bit_5_L
  /-- `BIT 5,(HL)`, 0xCB6E, R274 -/
  | bit_5_mHL
  /-- `BIT 5,A`, 0xCB6F, R274 -/
  | bit_5_A
  /-- `BIT 6,B`, 0xCB70, R274 -/
  | bit_6_B
  /-- `BIT 6,C`, 0xCB71, R274 -/
  | bit_6_C
  /-- `BIT 6,D`, 0xCB72, R274 -/
  | bit_6_D
  /-- `BIT 6,E`, 0xCB73, R274 -/
  | bit_6_E
  /-- `BIT 6,H`, 0xCB74, R274 -/
  | bit_6_H
  /-- `BIT 6,L`, 0xCB75, R274 -/
  | bit_6_L
  /-- `BIT 6,(HL)`, 0xCB76, R274 -/
  | bit_6_mHL
  /-- `BIT 6,A`, 0xCB77, R274 -/
  | bit_6_A
  /-- `BIT 7,B`, 0xCB78, R274 -/
  | bit_7_B
  /-- `BIT 7,C`, 0xCB79, R274 -/
  | bit_7_C
  /-- `BIT 7,D`, 0xCB7A, R274 -/
  | bit_7_D
  /-- `BIT 7,E`, 0xCB7B, R274 -/
  | bit_7_E
  /-- `BIT 7,H`, 0xCB7C, R274 -/
  | bit_7_H
  /-- `BIT 7,L`, 0xCB7D, R274 -/
  | bit_7_L
  /-- `BIT 7,(HL)`, 0xCB7E, R274 -/
  | bit_7_mHL
  /-- `BIT 7,A`, 0xCB7F, R274 -/
  | bit_7_A
  /-- `RES 0,B`, 0xCB80, R275 -/
  | res_0_B
  /-- `RES 0,C`, 0xCB81, R275 -/
  | res_0_C
  /-- `RES 0,D`, 0xCB82, R275 -/
  | res_0_D
  /-- `RES 0,E`, 0xCB83, R275 -/
  | res_0_E
  /-- `RES 0,H`, 0xCB84, R275 -/
  | res_0_H
  /-- `RES 0,L`, 0xCB85, R275 -/
  | res_0_L
  /-- `RES 0,(HL)`, 0xCB86, R275 -/
  | res_0_mHL
  /-- `RES 0,A`, 0xCB87, R275 -/
  | res_0_A
  /-- `RES 1,B`, 0xCB88, R275 -/
  | res_1_B
  /-- `RES 1,C`, 0xCB89, R275 -/
  | res_1_C
  /-- `RES 1,D`, 0xCB8A, R275 -/
  | res_1_D
  /-- `RES 1,E`, 0xCB8B, R275 -/
  | res_1_E
  /-- `RES 1,H`, 0xCB8C, R275 -/
  | res_1_H
  /-- `RES 1,L`, 0xCB8D, R275 -/
  | res_1_L
  /-- `RES 1,(HL)`, 0xCB8E, R275 -/
  | res_1_mHL
  /-- `RES 1,A`, 0xCB8F, R275 -/
  | res_1_A
  /-- `RES 2,B`, 0xCB90, R275 -/
  | res_2_B
  /-- `RES 2,C`, 0xCB91, R275 -/
  | res_2_C
  /-- `RES 2,D`, 0xCB92, R275 -/
  | res_2_D
  /-- `RES 2,E`, 0xCB93, R275 -/
  | res_2_E
  /-- `RES 2,H`, 0xCB94, R275 -/
  | res_2_H
  /-- `RES 2,L`, 0xCB95, R275 -/
  | res_2_L
  /-- `RES 2,(HL)`, 0xCB96, R275 -/
  | res_2_mHL
  /-- `RES 2,A`, 0xCB97, R275 -/
  | res_2_A
  /-- `RES 3,B`, 0xCB98, R275 -/
  | res_3_B
  /-- `RES 3,C`, 0xCB99, R275 -/
  | res_3_C
  /-- `RES 3,D`, 0xCB9A, R275 -/
  | res_3_D
  /-- `RES 3,E`, 0xCB9B, R275 -/
  | res_3_E
  /-- `RES 3,H`, 0xCB9C, R275 -/
  | res_3_H
  /-- `RES 3,L`, 0xCB9D, R275 -/
  | res_3_L
  /-- `RES 3,(HL)`, 0xCB9E, R275 -/
  | res_3_mHL
  /-- `RES 3,A`, 0xCB9F, R275 -/
  | res_3_A
  /-- `RES 4,B`, 0xCBA0, R275 -/
  | res_4_B
  /-- `RES 4,C`, 0xCBA1, R275 -/
  | res_4_C
  /-- `RES 4,D`, 0xCBA2, R275 -/
  | res_4_D
  /-- `RES 4,E`, 0xCBA3, R275 -/
  | res_4_E
  /-- `RES 4,H`, 0xCBA4, R275 -/
  | res_4_H
  /-- `RES 4,L`, 0xCBA5, R275 -/
  | res_4_L
  /-- `RES 4,(HL)`, 0xCBA6, R275 -/
  | res_4_mHL
  /-- `RES 4,A`, 0xCBA7, R275 -/
  | res_4_A
  /-- `RES 5,B`, 0xCBA8, R275 -/
  | res_5_B
  /-- `RES 5,C`, 0xCBA9, R275 -/
  | res_5_C
  /-- `RES 5,D`, 0xCBAA, R275 -/
  | res_5_D
  /-- `RES 5,E`, 0xCBAB, R275 -/
  | res_5_E
  /-- `RES 5,H`, 0xCBAC, R275 -/
  | res_5_H
  /-- `RES 5,L`, 0xCBAD, R275 -/
  | res_5_L
  /-- `RES 5,(HL)`, 0xCBAE, R275 -/
  | res_5_mHL
  /-- `RES 5,A`, 0xCBAF, R275 -/
  | res_5_A
  /-- `RES 6,B`, 0xCBB0, R275 -/
  | res_6_B
  /-- `RES 6,C`, 0xCBB1, R275 -/
  | res_6_C
  /-- `RES 6,D`, 0xCBB2, R275 -/
  | res_6_D
  /-- `RES 6,E`, 0xCBB3, R275 -/
  | res_6_E
  /-- `RES 6,H`, 0xCBB4, R275 -/
  | res_6_H
  /-- `RES 6,L`, 0xCBB5, R275 -/
  | res_6_L
  /-- `RES 6,(HL)`, 0xCBB6, R275 -/
  | res_6_mHL
  /-- `RES 6,A`, 0xCBB7, R275 -/
  | res_6_A
  /-- `RES 7,B`, 0xCBB8, R275 -/
  | res_7_B
  /-- `RES 7,C`, 0xCBB9, R275 -/
  | res_7_C
  /-- `RES 7,D`, 0xCBBA, R275 -/
  | res_7_D
  /-- `RES 7,E`, 0xCBBB, R275 -/
  | res_7_E
  /-- `RES 7,H`, 0xCBBC, R275 -/
  | res_7_H
  /-- `RES 7,L`, 0xCBBD, R275 -/
  | res_7_L
  /-- `RES 7,(HL)`, 0xCBBE, R275 -/
  | res_7_mHL
  /-- `RES 7,A`, 0xCBBF, R275 -/
  | res_7_A
  /-- `SET 0,B`, 0xCBC0, R276 -/
  | set_0_B
  /-- `SET 0,C`, 0xCBC1, R276 -/
  | set_0_C
  /-- `SET 0,D`, 0xCBC2, R276 -/
  | set_0_D
  /-- `SET 0,E`, 0xCBC3, R276 -/
  | set_0_E
  /-- `SET 0,H`, 0xCBC4, R276 -/
  | set_0_H
  /-- `SET 0,L`, 0xCBC5, R276 -/
  | set_0_L
  /-- `SET 0,(HL)`, 0xCBC6, R276 -/
  | set_0_mHL
  /-- `SET 0,A`, 0xCBC7, R276 -/
  | set_0_A
  /-- `SET 1,B`, 0xCBC8, R276 -/
  | set_1_B
  /-- `SET 1,C`, 0xCBC9, R276 -/
  | set_1_C
  /-- `SET 1,D`, 0xCBCA, R276 -/
  | set_1_D
  /-- `SET 1,E`, 0xCBCB, R276 -/
  | set_1_E
  /-- `SET 1,H`, 0xCBCC, R276 -/
  | set_1_H
  /-- `SET 1,L`, 0xCBCD, R276 -/
  | set_1_L
  /-- `SET 1,(HL)`, 0xCBCE, R276 -/
  | set_1_mHL
  /-- `SET 1,A`, 0xCBCF, R276 -/
  | set_1_A
  /-- `SET 2,B`, 0xCBD0, R276 -/
  | set_2_B
  /-- `SET 2,C`, 0xCBD1, R276 -/
  | set_2_C
  /-- `SET 2,D`, 0xCBD2, R276 -/
  | set_2_D
  /-- `SET 2,E`, 0xCBD3, R276 -/
  | set_2_E
  /-- `SET 2,H`, 0xCBD4, R276 -/
  | set_2_H
  /-- `SET 2,L`, 0xCBD5, R276 -/
  | set_2_L
  /-- `SET 2,(HL)`, 0xCBD6, R276 -/
  | set_2_mHL
  /-- `SET 2,A`, 0xCBD7, R276 -/
  | set_2_A
  /-- `SET 3,B`, 0xCBD8, R276 -/
  | set_3_B
  /-- `SET 3,C`, 0xCBD9, R276 -/
  | set_3_C
  /-- `SET 3,D`, 0xCBDA, R276 -/
  | set_3_D
  /-- `SET 3,E`, 0xCBDB, R276 -/
  | set_3_E
  /-- `SET 3,H`, 0xCBDC, R276 -/
  | set_3_H
  /-- `SET 3,L`, 0xCBDD, R276 -/
  | set_3_L
  /-- `SET 3,(HL)`, 0xCBDE, R276 -/
  | set_3_mHL
  /-- `SET 3,A`, 0xCBDF, R276 -/
  | set_3_A
  /-- `SET 4,B`, 0xCBE0, R276 -/
  | set_4_B
  /-- `SET 4,C`, 0xCBE1, R276 -/
  | set_4_C
  /-- `SET 4,D`, 0xCBE2, R276 -/
  | set_4_D
  /-- `SET 4,E`, 0xCBE3, R276 -/
  | set_4_E
  /-- `SET 4,H`, 0xCBE4, R276 -/
  | set_4_H
  /-- `SET 4,L`, 0xCBE5, R276 -/
  | set_4_L
  /-- `SET 4,(HL)`, 0xCBE6, R276 -/
  | set_4_mHL
  /-- `SET 4,A`, 0xCBE7, R276 -/
  | set_4_A
  /-- `SET 5,B`, 0xCBE8, R276 -/
  | set_5_B
  /-- `SET 5,C`, 0xCBE9, R276 -/
  | set_5_C
  /-- `SET 5,D`, 0xCBEA, R276 -/
  | set_5_D
  /-- `SET 5,E`, 0xCBEB, R276 -/
  | set_5_E
  /-- `SET 5,H`, 0xCBEC, R276 -/
  | set_5_H
  /-- `SET 5,L`, 0xCBED, R276 -/
  | set_5_L
  /-- `SET 5,(HL)`, 0xCBEE, R276 -/
  | set_5_mHL
  /-- `SET 5,A`, 0xCBEF, R276 -/
  | set_5_A
  /-- `SET 6,B`, 0xCBF0, R276 -/
  | set_6_B
  /-- `SET 6,C`, 0xCBF1, R276 -/
  | set_6_C
  /-- `SET 6,D`, 0xCBF2, R276 -/
  | set_6_D
  /-- `SET 6,E`, 0xCBF3, R276 -/
  | set_6_E
  /-- `SET 6,H`, 0xCBF4, R276 -/
  | set_6_H
  /-- `SET 6,L`, 0xCBF5, R276 -/
  | set_6_L
  /-- `SET 6,(HL)`, 0xCBF6, R276 -/
  | set_6_mHL
  /-- `SET 6,A`, 0xCBF7, R276 -/
  | set_6_A
  /-- `SET 7,B`, 0xCBF8, R276 -/
  | set_7_B
  /-- `SET 7,C`, 0xCBF9, R276 -/
  | set_7_C
  /-- `SET 7,D`, 0xCBFA, R276 -/
  | set_7_D
  /-- `SET 7,E`, 0xCBFB, R276 -/
  | set_7_E
  /-- `SET 7,H`, 0xCBFC, R276 -/
  | set_7_H
  /-- `SET 7,L`, 0xCBFD, R276 -/
  | set_7_L
  /-- `SET 7,(HL)`, 0xCBFE, R276 -/
  | set_7_mHL
  /-- `SET 7,A`, 0xCBFF, R276 -/
  | set_7_A
  deriving DecidableEq, Repr

end Sys2Proof
end

