-- ==== Sys2Proof/Decode.lean ====
section
/-! DEFINITION. Decoding, from the field description of 30_encoding.md (R100 to R118, R121), and after it the encoder, from
opcode_table.json row by row. -/
namespace Sys2Proof

/-! The instructions by their operands: each function picks the row of the table that has these operands. -/

/-- LD r8[y],r8[z] (R112, x = 1). The slot of LD (HL),(HL) is HALT. -/
def Instr.ld8 (k : Operand8) (o : Operand8) : Instr :=
  match k, o with
  | .b, .b => .ld_B_B | .b, .c => .ld_B_C | .b, .d => .ld_B_D | .b, .e => .ld_B_E | .b, .h => .ld_B_H
  | .b, .l => .ld_B_L | .b, .mHL => .ld_B_mHL | .b, .a => .ld_B_A
  | .c, .b => .ld_C_B | .c, .c => .ld_C_C | .c, .d => .ld_C_D | .c, .e => .ld_C_E | .c, .h => .ld_C_H
  | .c, .l => .ld_C_L | .c, .mHL => .ld_C_mHL | .c, .a => .ld_C_A
  | .d, .b => .ld_D_B | .d, .c => .ld_D_C | .d, .d => .ld_D_D | .d, .e => .ld_D_E | .d, .h => .ld_D_H
  | .d, .l => .ld_D_L | .d, .mHL => .ld_D_mHL | .d, .a => .ld_D_A
  | .e, .b => .ld_E_B | .e, .c => .ld_E_C | .e, .d => .ld_E_D | .e, .e => .ld_E_E | .e, .h => .ld_E_H
  | .e, .l => .ld_E_L | .e, .mHL => .ld_E_mHL | .e, .a => .ld_E_A
  | .h, .b => .ld_H_B | .h, .c => .ld_H_C | .h, .d => .ld_H_D | .h, .e => .ld_H_E | .h, .h => .ld_H_H
  | .h, .l => .ld_H_L | .h, .mHL => .ld_H_mHL | .h, .a => .ld_H_A
  | .l, .b => .ld_L_B | .l, .c => .ld_L_C | .l, .d => .ld_L_D | .l, .e => .ld_L_E | .l, .h => .ld_L_H
  | .l, .l => .ld_L_L | .l, .mHL => .ld_L_mHL | .l, .a => .ld_L_A
  | .mHL, .b => .ld_mHL_B | .mHL, .c => .ld_mHL_C | .mHL, .d => .ld_mHL_D | .mHL, .e => .ld_mHL_E
  | .mHL, .h => .ld_mHL_H | .mHL, .l => .ld_mHL_L | .mHL, .mHL => .halt | .mHL, .a => .ld_mHL_A
  | .a, .b => .ld_A_B | .a, .c => .ld_A_C | .a, .d => .ld_A_D | .a, .e => .ld_A_E | .a, .h => .ld_A_H
  | .a, .l => .ld_A_L | .a, .mHL => .ld_A_mHL | .a, .a => .ld_A_A

/-- LD r8[y],d8 (x = 0, z = 6). -/
def Instr.ld8Imm (k : Operand8) (v : Byte) : Instr :=
  match k with
  | .b => .ld_B_d8 v | .c => .ld_C_d8 v | .d => .ld_D_d8 v | .e => .ld_E_d8 v | .h => .ld_H_d8 v
  | .l => .ld_L_d8 v | .mHL => .ld_mHL_d8 v | .a => .ld_A_d8 v

/-- LD r16[p],d16 (x = 0, z = 1, q = 0). -/
def Instr.ld16Imm (k : Reg16) (w : Word) : Instr :=
  match k with
  | .bc => .ld_BC_d16 w | .de => .ld_DE_d16 w | .hl => .ld_HL_d16 w | .sp => .ld_SP_d16 w

/-- PUSH r16stk[p] (x = 3, z = 5, q = 0). -/
def Instr.pushOf (k : Stk16) : Instr :=
  match k with
  | .bc => .push_BC | .de => .push_DE | .hl => .push_HL | .af => .push_AF

/-- POP r16stk[p] (x = 3, z = 1, q = 0). -/
def Instr.popOf (k : Stk16) : Instr :=
  match k with
  | .bc => .pop_BC | .de => .pop_DE | .hl => .pop_HL | .af => .pop_AF

/-- alu[y] A,r8[z] (x = 2). -/
def Instr.aluOf (k : AluOp) (o : Operand8) : Instr :=
  match k, o with
  | .add, .b => .add_A_B | .add, .c => .add_A_C | .add, .d => .add_A_D | .add, .e => .add_A_E
  | .add, .h => .add_A_H | .add, .l => .add_A_L | .add, .mHL => .add_A_mHL | .add, .a => .add_A_A
  | .adc, .b => .adc_A_B | .adc, .c => .adc_A_C | .adc, .d => .adc_A_D | .adc, .e => .adc_A_E
  | .adc, .h => .adc_A_H | .adc, .l => .adc_A_L | .adc, .mHL => .adc_A_mHL | .adc, .a => .adc_A_A
  | .sub, .b => .sub_B | .sub, .c => .sub_C | .sub, .d => .sub_D | .sub, .e => .sub_E | .sub, .h => .sub_H
  | .sub, .l => .sub_L | .sub, .mHL => .sub_mHL | .sub, .a => .sub_A
  | .sbc, .b => .sbc_A_B | .sbc, .c => .sbc_A_C | .sbc, .d => .sbc_A_D | .sbc, .e => .sbc_A_E
  | .sbc, .h => .sbc_A_H | .sbc, .l => .sbc_A_L | .sbc, .mHL => .sbc_A_mHL | .sbc, .a => .sbc_A_A
  | .and, .b => .and_B | .and, .c => .and_C | .and, .d => .and_D | .and, .e => .and_E | .and, .h => .and_H
  | .and, .l => .and_L | .and, .mHL => .and_mHL | .and, .a => .and_A
  | .xor, .b => .xor_B | .xor, .c => .xor_C | .xor, .d => .xor_D | .xor, .e => .xor_E | .xor, .h => .xor_H
  | .xor, .l => .xor_L | .xor, .mHL => .xor_mHL | .xor, .a => .xor_A
  | .or, .b => .or_B | .or, .c => .or_C | .or, .d => .or_D | .or, .e => .or_E | .or, .h => .or_H
  | .or, .l => .or_L | .or, .mHL => .or_mHL | .or, .a => .or_A
  | .cp, .b => .cp_B | .cp, .c => .cp_C | .cp, .d => .cp_D | .cp, .e => .cp_E | .cp, .h => .cp_H
  | .cp, .l => .cp_L | .cp, .mHL => .cp_mHL | .cp, .a => .cp_A

/-- alu[y] A,d8 (x = 3, z = 6). -/
def Instr.aluImm (k : AluOp) (v : Byte) : Instr :=
  match k with
  | .add => .add_A_d8 v | .adc => .adc_A_d8 v | .sub => .sub_d8 v | .sbc => .sbc_A_d8 v | .and => .and_d8 v
  | .xor => .xor_d8 v | .or => .or_d8 v | .cp => .cp_d8 v

/-- INC r8[y] (x = 0, z = 4). -/
def Instr.inc8 (k : Operand8) : Instr :=
  match k with
  | .b => .inc_B | .c => .inc_C | .d => .inc_D | .e => .inc_E | .h => .inc_H | .l => .inc_L | .mHL => .inc_mHL
  | .a => .inc_A

/-- DEC r8[y] (x = 0, z = 5). -/
def Instr.dec8 (k : Operand8) : Instr :=
  match k with
  | .b => .dec_B | .c => .dec_C | .d => .dec_D | .e => .dec_E | .h => .dec_H | .l => .dec_L | .mHL => .dec_mHL
  | .a => .dec_A

/-- ADD HL,r16[p] (x = 0, z = 1, q = 1). -/
def Instr.addHL (k : Reg16) : Instr :=
  match k with
  | .bc => .add_HL_BC | .de => .add_HL_DE | .hl => .add_HL_HL | .sp => .add_HL_SP

/-- INC r16[p] (x = 0, z = 3, q = 0). -/
def Instr.inc16 (k : Reg16) : Instr :=
  match k with
  | .bc => .inc_BC | .de => .inc_DE | .hl => .inc_HL | .sp => .inc_SP

/-- DEC r16[p] (x = 0, z = 3, q = 1). -/
def Instr.dec16 (k : Reg16) : Instr :=
  match k with
  | .bc => .dec_BC | .de => .dec_DE | .hl => .dec_HL | .sp => .dec_SP

/-- JP cc[y],a16 (x = 3, z = 2, y < 4). -/
def Instr.jpCond (k : Cond) (a : Word) : Instr :=
  match k with
  | .nz => .jp_NZ_a16 a | .z => .jp_Z_a16 a | .nc => .jp_NC_a16 a | .c => .jp_C_a16 a

/-- JR cc[y-4],e8 (x = 0, z = 0, y >= 4). -/
def Instr.jrCond (k : Cond) (e : Byte) : Instr :=
  match k with
  | .nz => .jr_NZ_e8 e | .z => .jr_Z_e8 e | .nc => .jr_NC_e8 e | .c => .jr_C_e8 e

/-- CALL cc[y],a16 (x = 3, z = 4, y < 4). -/
def Instr.callCond (k : Cond) (a : Word) : Instr :=
  match k with
  | .nz => .call_NZ_a16 a | .z => .call_Z_a16 a | .nc => .call_NC_a16 a | .c => .call_C_a16 a

/-- RET cc[y] (x = 3, z = 0, y < 4). -/
def Instr.retCond (k : Cond) : Instr :=
  match k with
  | .nz => .ret_NZ | .z => .ret_Z | .nc => .ret_NC | .c => .ret_C

/-- RST y*8 (x = 3, z = 7). -/
def Instr.rstOf (k : RstTarget) : Instr :=
  match k with
  | .t00 => .rst_00 | .t08 => .rst_08 | .t10 => .rst_10 | .t18 => .rst_18 | .t20 => .rst_20 | .t28 => .rst_28
  | .t30 => .rst_30 | .t38 => .rst_38

/-- rot[y] r8[z], second byte x = 0 (R114). -/
def Instr.rotOf (k : RotOp) (o : Operand8) : Instr :=
  match k, o with
  | .rlc, .b => .rlc_B | .rlc, .c => .rlc_C | .rlc, .d => .rlc_D | .rlc, .e => .rlc_E | .rlc, .h => .rlc_H
  | .rlc, .l => .rlc_L | .rlc, .mHL => .rlc_mHL | .rlc, .a => .rlc_A
  | .rrc, .b => .rrc_B | .rrc, .c => .rrc_C | .rrc, .d => .rrc_D | .rrc, .e => .rrc_E | .rrc, .h => .rrc_H
  | .rrc, .l => .rrc_L | .rrc, .mHL => .rrc_mHL | .rrc, .a => .rrc_A
  | .rl, .b => .rl_B | .rl, .c => .rl_C | .rl, .d => .rl_D | .rl, .e => .rl_E | .rl, .h => .rl_H
  | .rl, .l => .rl_L | .rl, .mHL => .rl_mHL | .rl, .a => .rl_A
  | .rr, .b => .rr_B | .rr, .c => .rr_C | .rr, .d => .rr_D | .rr, .e => .rr_E | .rr, .h => .rr_H
  | .rr, .l => .rr_L | .rr, .mHL => .rr_mHL | .rr, .a => .rr_A
  | .sla, .b => .sla_B | .sla, .c => .sla_C | .sla, .d => .sla_D | .sla, .e => .sla_E | .sla, .h => .sla_H
  | .sla, .l => .sla_L | .sla, .mHL => .sla_mHL | .sla, .a => .sla_A
  | .sra, .b => .sra_B | .sra, .c => .sra_C | .sra, .d => .sra_D | .sra, .e => .sra_E | .sra, .h => .sra_H
  | .sra, .l => .sra_L | .sra, .mHL => .sra_mHL | .sra, .a => .sra_A
  | .swap, .b => .swap_B | .swap, .c => .swap_C | .swap, .d => .swap_D | .swap, .e => .swap_E
  | .swap, .h => .swap_H | .swap, .l => .swap_L | .swap, .mHL => .swap_mHL | .swap, .a => .swap_A
  | .srl, .b => .srl_B | .srl, .c => .srl_C | .srl, .d => .srl_D | .srl, .e => .srl_E | .srl, .h => .srl_H
  | .srl, .l => .srl_L | .srl, .mHL => .srl_mHL | .srl, .a => .srl_A

/-- BIT y,r8[z], second byte x = 1 (R114). -/
def Instr.bitOf (k : BitNum) (o : Operand8) : Instr :=
  match k, o with
  | .b0, .b => .bit_0_B | .b0, .c => .bit_0_C | .b0, .d => .bit_0_D | .b0, .e => .bit_0_E
  | .b0, .h => .bit_0_H | .b0, .l => .bit_0_L | .b0, .mHL => .bit_0_mHL | .b0, .a => .bit_0_A
  | .b1, .b => .bit_1_B | .b1, .c => .bit_1_C | .b1, .d => .bit_1_D | .b1, .e => .bit_1_E
  | .b1, .h => .bit_1_H | .b1, .l => .bit_1_L | .b1, .mHL => .bit_1_mHL | .b1, .a => .bit_1_A
  | .b2, .b => .bit_2_B | .b2, .c => .bit_2_C | .b2, .d => .bit_2_D | .b2, .e => .bit_2_E
  | .b2, .h => .bit_2_H | .b2, .l => .bit_2_L | .b2, .mHL => .bit_2_mHL | .b2, .a => .bit_2_A
  | .b3, .b => .bit_3_B | .b3, .c => .bit_3_C | .b3, .d => .bit_3_D | .b3, .e => .bit_3_E
  | .b3, .h => .bit_3_H | .b3, .l => .bit_3_L | .b3, .mHL => .bit_3_mHL | .b3, .a => .bit_3_A
  | .b4, .b => .bit_4_B | .b4, .c => .bit_4_C | .b4, .d => .bit_4_D | .b4, .e => .bit_4_E
  | .b4, .h => .bit_4_H | .b4, .l => .bit_4_L | .b4, .mHL => .bit_4_mHL | .b4, .a => .bit_4_A
  | .b5, .b => .bit_5_B | .b5, .c => .bit_5_C | .b5, .d => .bit_5_D | .b5, .e => .bit_5_E
  | .b5, .h => .bit_5_H | .b5, .l => .bit_5_L | .b5, .mHL => .bit_5_mHL | .b5, .a => .bit_5_A
  | .b6, .b => .bit_6_B | .b6, .c => .bit_6_C | .b6, .d => .bit_6_D | .b6, .e => .bit_6_E
  | .b6, .h => .bit_6_H | .b6, .l => .bit_6_L | .b6, .mHL => .bit_6_mHL | .b6, .a => .bit_6_A
  | .b7, .b => .bit_7_B | .b7, .c => .bit_7_C | .b7, .d => .bit_7_D | .b7, .e => .bit_7_E
  | .b7, .h => .bit_7_H | .b7, .l => .bit_7_L | .b7, .mHL => .bit_7_mHL | .b7, .a => .bit_7_A

/-- RES y,r8[z], second byte x = 2 (R114). -/
def Instr.resOf (k : BitNum) (o : Operand8) : Instr :=
  match k, o with
  | .b0, .b => .res_0_B | .b0, .c => .res_0_C | .b0, .d => .res_0_D | .b0, .e => .res_0_E
  | .b0, .h => .res_0_H | .b0, .l => .res_0_L | .b0, .mHL => .res_0_mHL | .b0, .a => .res_0_A
  | .b1, .b => .res_1_B | .b1, .c => .res_1_C | .b1, .d => .res_1_D | .b1, .e => .res_1_E
  | .b1, .h => .res_1_H | .b1, .l => .res_1_L | .b1, .mHL => .res_1_mHL | .b1, .a => .res_1_A
  | .b2, .b => .res_2_B | .b2, .c => .res_2_C | .b2, .d => .res_2_D | .b2, .e => .res_2_E
  | .b2, .h => .res_2_H | .b2, .l => .res_2_L | .b2, .mHL => .res_2_mHL | .b2, .a => .res_2_A
  | .b3, .b => .res_3_B | .b3, .c => .res_3_C | .b3, .d => .res_3_D | .b3, .e => .res_3_E
  | .b3, .h => .res_3_H | .b3, .l => .res_3_L | .b3, .mHL => .res_3_mHL | .b3, .a => .res_3_A
  | .b4, .b => .res_4_B | .b4, .c => .res_4_C | .b4, .d => .res_4_D | .b4, .e => .res_4_E
  | .b4, .h => .res_4_H | .b4, .l => .res_4_L | .b4, .mHL => .res_4_mHL | .b4, .a => .res_4_A
  | .b5, .b => .res_5_B | .b5, .c => .res_5_C | .b5, .d => .res_5_D | .b5, .e => .res_5_E
  | .b5, .h => .res_5_H | .b5, .l => .res_5_L | .b5, .mHL => .res_5_mHL | .b5, .a => .res_5_A
  | .b6, .b => .res_6_B | .b6, .c => .res_6_C | .b6, .d => .res_6_D | .b6, .e => .res_6_E
  | .b6, .h => .res_6_H | .b6, .l => .res_6_L | .b6, .mHL => .res_6_mHL | .b6, .a => .res_6_A
  | .b7, .b => .res_7_B | .b7, .c => .res_7_C | .b7, .d => .res_7_D | .b7, .e => .res_7_E
  | .b7, .h => .res_7_H | .b7, .l => .res_7_L | .b7, .mHL => .res_7_mHL | .b7, .a => .res_7_A

/-- SET y,r8[z], second byte x = 3 (R114). -/
def Instr.setOf (k : BitNum) (o : Operand8) : Instr :=
  match k, o with
  | .b0, .b => .set_0_B | .b0, .c => .set_0_C | .b0, .d => .set_0_D | .b0, .e => .set_0_E
  | .b0, .h => .set_0_H | .b0, .l => .set_0_L | .b0, .mHL => .set_0_mHL | .b0, .a => .set_0_A
  | .b1, .b => .set_1_B | .b1, .c => .set_1_C | .b1, .d => .set_1_D | .b1, .e => .set_1_E
  | .b1, .h => .set_1_H | .b1, .l => .set_1_L | .b1, .mHL => .set_1_mHL | .b1, .a => .set_1_A
  | .b2, .b => .set_2_B | .b2, .c => .set_2_C | .b2, .d => .set_2_D | .b2, .e => .set_2_E
  | .b2, .h => .set_2_H | .b2, .l => .set_2_L | .b2, .mHL => .set_2_mHL | .b2, .a => .set_2_A
  | .b3, .b => .set_3_B | .b3, .c => .set_3_C | .b3, .d => .set_3_D | .b3, .e => .set_3_E
  | .b3, .h => .set_3_H | .b3, .l => .set_3_L | .b3, .mHL => .set_3_mHL | .b3, .a => .set_3_A
  | .b4, .b => .set_4_B | .b4, .c => .set_4_C | .b4, .d => .set_4_D | .b4, .e => .set_4_E
  | .b4, .h => .set_4_H | .b4, .l => .set_4_L | .b4, .mHL => .set_4_mHL | .b4, .a => .set_4_A
  | .b5, .b => .set_5_B | .b5, .c => .set_5_C | .b5, .d => .set_5_D | .b5, .e => .set_5_E
  | .b5, .h => .set_5_H | .b5, .l => .set_5_L | .b5, .mHL => .set_5_mHL | .b5, .a => .set_5_A
  | .b6, .b => .set_6_B | .b6, .c => .set_6_C | .b6, .d => .set_6_D | .b6, .e => .set_6_E
  | .b6, .h => .set_6_H | .b6, .l => .set_6_L | .b6, .mHL => .set_6_mHL | .b6, .a => .set_6_A
  | .b7, .b => .set_7_B | .b7, .c => .set_7_C | .b7, .d => .set_7_D | .b7, .e => .set_7_E
  | .b7, .h => .set_7_H | .b7, .l => .set_7_L | .b7, .mHL => .set_7_mHL | .b7, .a => .set_7_A

/-! The index tables of R104 to R109. An index comes from a field, so it is below the table's length. -/

/-- `r8[i]` (R104). -/
def r8At (i : Nat) : Operand8 :=
  match i with
  | 0 => .b | 1 => .c | 2 => .d | 3 => .e | 4 => .h | 5 => .l | 6 => .mHL | _ => .a

/-- `r16[i]` (R105). -/
def r16At (i : Nat) : Reg16 :=
  match i with
  | 0 => .bc | 1 => .de | 2 => .hl | _ => .sp

/-- `r16stk[i]` (R106). -/
def stkAt (i : Nat) : Stk16 :=
  match i with
  | 0 => .bc | 1 => .de | 2 => .hl | _ => .af

/-- `cc[i]` (R107). -/
def ccAt (i : Nat) : Cond :=
  match i with
  | 0 => .nz | 1 => .z | 2 => .nc | _ => .c

/-- `alu[i]` (R108). -/
def aluAt (i : Nat) : AluOp :=
  match i with
  | 0 => .add | 1 => .adc | 2 => .sub | 3 => .sbc | 4 => .and | 5 => .xor | 6 => .or | _ => .cp

/-- `rot[i]` (R109). -/
def rotAt (i : Nat) : RotOp :=
  match i with
  | 0 => .rlc | 1 => .rrc | 2 => .rl | 3 => .rr | 4 => .sla | 5 => .sra | 6 => .swap | _ => .srl

/-- The bit number `y` (R110). -/
def bitAt (i : Nat) : BitNum :=
  match i with
  | 0 => .b0 | 1 => .b1 | 2 => .b2 | 3 => .b3 | 4 => .b4 | 5 => .b5 | 6 => .b6 | _ => .b7

/-- The target `8 * y` of RST (R110). -/
def rstAt (i : Nat) : RstTarget :=
  match i with
  | 0 => .t00 | 1 => .t08 | 2 => .t10 | 3 => .t18 | 4 => .t20 | 5 => .t28 | 6 => .t30 | _ => .t38

/-- The target of RST, `8 * y` (R110, 45_control_flow.md R311). -/
def RstTarget.address : RstTarget → Word
  | .t00 => 0x0000#16 | .t08 => 0x0008#16 | .t10 => 0x0010#16 | .t18 => 0x0018#16 | .t20 => 0x0020#16
  | .t28 => 0x0028#16 | .t30 => 0x0030#16 | .t38 => 0x0038#16

/-- The register as an operand. -/
def Reg8.op : Reg8 → Operand8
  | .b => .b | .c => .c | .d => .d | .e => .e | .h => .h | .l => .l | .a => .a

/-- R112, x = 0. -/
def decodeX0 (y z p q : Nat) (b1 b2 : Byte) : Instr :=
  match z with
  | 0 =>
    match y with
    | 0 => .nop
    | 1 => .ld_ma16_SP (word16 b2 b1)
    | 2 => .stop b1
    | 3 => .jr_e8 b1
    | _ => .jrCond (ccAt (y - 4)) b1
  | 1 => if q = 0 then .ld16Imm (r16At p) (word16 b2 b1) else .addHL (r16At p)
  | 2 =>
    if q = 0 then
      match p with
      | 0 => .ld_mBC_A
      | 1 => .ld_mDE_A
      | 2 => .ld_mHLi_A
      | _ => .ld_mHLd_A
    else
      match p with
      | 0 => .ld_A_mBC
      | 1 => .ld_A_mDE
      | 2 => .ld_A_mHLi
      | _ => .ld_A_mHLd
  | 3 => if q = 0 then .inc16 (r16At p) else .dec16 (r16At p)
  | 4 => .inc8 (r8At y)
  | 5 => .dec8 (r8At y)
  | 6 => .ld8Imm (r8At y) b1
  | _ =>
    match y with
    | 0 => .rlca
    | 1 => .rrca
    | 2 => .rla
    | 3 => .rra
    | 4 => .daa
    | 5 => .cpl
    | 6 => .scf
    | _ => .ccf

/-- R114: the second byte after 0xCB. -/
def decodeCB (op2 : Byte) : Instr :=
  let y := fieldY op2
  let o := r8At (fieldZ op2)
  match fieldX op2 with
  | 0 => .rotOf (rotAt y) o
  | 1 => .bitOf (bitAt y) o
  | 2 => .resOf (bitAt y) o
  | _ => .setOf (bitAt y) o

/-- R112, x = 3. -/
def decodeX3 (y z p q : Nat) (b1 b2 : Byte) : Instr :=
  match z with
  | 0 =>
    match y with
    | 4 => .ldh_ma8_A b1
    | 5 => .add_SP_e8 b1
    | 6 => .ldh_A_ma8 b1
    | 7 => .ld_HL_SPe8 b1
    | _ => .retCond (ccAt y)
  | 1 =>
    if q = 0 then .popOf (stkAt p)
    else
      match p with
      | 0 => .ret
      | 1 => .reti
      | 2 => .jp_HL
      | _ => .ld_SP_HL
  | 2 =>
    match y with
    | 4 => .ldh_mC_A
    | 5 => .ld_ma16_A (word16 b2 b1)
    | 6 => .ldh_A_mC
    | 7 => .ld_A_ma16 (word16 b2 b1)
    | _ => .jpCond (ccAt y) (word16 b2 b1)
  | 3 =>
    match y with
    | 0 => .jp_a16 (word16 b2 b1)
    | 1 => decodeCB b1
    | 2 => .undefined_D3
    | 3 => .undefined_DB
    | 4 => .undefined_E3
    | 5 => .undefined_EB
    | 6 => .di
    | _ => .ei
  | 4 =>
    match y with
    | 4 => .undefined_E4
    | 5 => .undefined_EC
    | 6 => .undefined_F4
    | 7 => .undefined_FC
    | _ => .callCond (ccAt y) (word16 b2 b1)
  | 5 =>
    if q = 0 then .pushOf (stkAt p)
    else
      match p with
      | 0 => .call_a16 (word16 b2 b1)
      | 1 => .undefined_DD
      | 2 => .undefined_ED
      | _ => .undefined_FD
  | 6 => .aluImm (aluAt y) b1
  | _ => .rstOf (rstAt y)

/-- The instruction of an opcode byte and the two bytes after it; a byte the opcode has no use for is not read (R112,
R118). For 0xCB the byte after it is the second opcode byte. -/
def decodeBytes (op b1 b2 : Byte) : Instr :=
  match fieldX op with
  | 0 => decodeX0 (fieldY op) (fieldZ op) (fieldP op) (fieldQ op) b1 b2
  | 1 => .ld8 (r8At (fieldY op)) (r8At (fieldZ op))
  | 2 => .aluOf (aluAt (fieldY op)) (r8At (fieldZ op))
  | _ => decodeX3 (fieldY op) (fieldZ op) (fieldP op) (fieldQ op) b1 b2

/-- The opcodes of 3-byte instructions (R121). -/
def threeByteOpcodes : List Byte :=
  [0x01#8, 0x11#8, 0x21#8, 0x31#8, 0x08#8, 0xC2#8, 0xCA#8, 0xD2#8, 0xDA#8, 0xC3#8,
   0xC4#8, 0xCC#8, 0xD4#8, 0xDC#8, 0xCD#8, 0xEA#8, 0xFA#8]

/-- The opcodes of 2-byte instructions (R121). -/
def twoByteOpcodes : List Byte :=
  [0x06#8, 0x0E#8, 0x16#8, 0x1E#8, 0x26#8, 0x2E#8, 0x36#8, 0x3E#8, 0x10#8, 0x18#8, 0x20#8, 0x28#8, 0x30#8, 0x38#8,
   0xC6#8, 0xCE#8, 0xD6#8, 0xDE#8, 0xE6#8, 0xEE#8, 0xF6#8, 0xFE#8, 0xE0#8, 0xF0#8, 0xE8#8, 0xF8#8, 0xCB#8]

/-- How many bytes follow the opcode byte (R100, R121). An undefined value has none. -/
def operandCount (op : Byte) : Nat :=
  if threeByteOpcodes.contains op then 2 else if twoByteOpcodes.contains op then 1 else 0

/-! The arguments OPCODE_MAP and IMM_ORDER (00_scope.md R6; log 1): how bytes in another map or order read in the map of this
file. -/

/-- The byte values whose meaning the document itself gives, the same in every map: the prefix and the eleven undefined ones
(R115, R119). -/
def documentBytes : List Byte :=
  [0xCB#8, 0xD3#8, 0xDB#8, 0xDD#8, 0xE3#8, 0xE4#8, 0xEB#8, 0xEC#8, 0xED#8, 0xF4#8, 0xFC#8, 0xFD#8]

/-- The first byte of an instruction, in the standard map. -/
def OpcodeMap.firstByte (m : OpcodeMap) (b : Byte) : Byte :=
  match m with
  | .standard => b
  | .given first _ =>
    if documentBytes.contains b || documentBytes.contains (first.getD b.toNat b) then b else first.getD b.toNat b

/-- The byte after an opcode byte (standard), in the standard map: after 0xCB it is an opcode byte too. -/
def OpcodeMap.byteAfter (m : OpcodeMap) (op b : Byte) : Byte :=
  match m with
  | .standard => b
  | .given _ second => if op = 0xCB#8 then second.getD b.toNat b else b

/-- An instruction's bytes, in the standard map and order. -/
def Params.standardBytes (p : Params) (bytes : List Byte) : List Byte :=
  match bytes with
  | [] => []
  | [b] => [p.opcodeMap.firstByte b]
  | [b, b1] => [p.opcodeMap.firstByte b, p.opcodeMap.byteAfter (p.opcodeMap.firstByte b) b1]
  | b :: b1 :: b2 :: rest => p.opcodeMap.firstByte b :: (p.immOrder.pair b1 b2).1 :: (p.immOrder.pair b1 b2).2 :: rest

/-- Why a list of bytes is no instruction. -/
inductive DecodeError where
  /-- there is no opcode byte -/
  | noOpcode
  /-- the byte after 0xCB is missing -/
  | noSecondOpcode
  /-- an operand byte is missing -/
  | noOperand
  deriving DecidableEq, Repr

/-- Decoding a list of bytes, byte 0 first: the instruction and the bytes after it (R100, R118). -/
def decode (bytes : List Byte) : Except DecodeError (Instr × List Byte) :=
  match bytes with
  | [] => .error .noOpcode
  | op :: rest =>
    match operandCount op, rest with
    | 0, _ => .ok (decodeBytes op 0#8 0#8, rest)
    | 1, b1 :: tail => .ok (decodeBytes op b1 0#8, tail)
    | 1, [] => .error (if op = 0xCB#8 then .noSecondOpcode else .noOperand)
    | _, b1 :: b2 :: tail => .ok (decodeBytes op b1 b2, tail)
    | _, _ => .error .noOperand

/-- The bytes of a table word (log 8). The table's number of a two-byte row has the first byte, 0xCB, in bits 15..8; every
other word has its first byte in bits 7..0. Bits above `nbits` are 0. -/
def tableWordBytes (nbits w : Nat) : List Byte :=
  let v := w % 2 ^ nbits
  if nbits = 16 ∧ v / 256 = 0xCB then [0xCB#8, BitVec.ofNat 8 v, 0#8]
  else [BitVec.ofNat 8 v, BitVec.ofNat 8 (v / 256), BitVec.ofNat 8 (v / 65536)]

/-- The instruction the decoder reads from a table word. -/
def decodeTableWord (nbits w : Nat) : Option Instr :=
  match decode (tableWordBytes nbits w) with
  | .ok (i, _) => some i
  | .error _ => none

/-! The encoder. -/

/-- The opcode byte, and for a 0xCB row the second opcode byte (opcode_table.json, `match`). -/
def Instr.opcode : Instr → Byte × Option Byte
  | .nop => (0x00#8, none) | .ld_BC_d16 _ => (0x01#8, none) | .ld_mBC_A => (0x02#8, none)
  | .inc_BC => (0x03#8, none) | .inc_B => (0x04#8, none) | .dec_B => (0x05#8, none)
  | .ld_B_d8 _ => (0x06#8, none) | .rlca => (0x07#8, none) | .ld_ma16_SP _ => (0x08#8, none)
  | .add_HL_BC => (0x09#8, none) | .ld_A_mBC => (0x0A#8, none) | .dec_BC => (0x0B#8, none)
  | .inc_C => (0x0C#8, none) | .dec_C => (0x0D#8, none) | .ld_C_d8 _ => (0x0E#8, none)
  | .rrca => (0x0F#8, none) | .stop _ => (0x10#8, none) | .ld_DE_d16 _ => (0x11#8, none)
  | .ld_mDE_A => (0x12#8, none) | .inc_DE => (0x13#8, none) | .inc_D => (0x14#8, none)
  | .dec_D => (0x15#8, none) | .ld_D_d8 _ => (0x16#8, none) | .rla => (0x17#8, none)
  | .jr_e8 _ => (0x18#8, none) | .add_HL_DE => (0x19#8, none) | .ld_A_mDE => (0x1A#8, none)
  | .dec_DE => (0x1B#8, none) | .inc_E => (0x1C#8, none) | .dec_E => (0x1D#8, none)
  | .ld_E_d8 _ => (0x1E#8, none) | .rra => (0x1F#8, none) | .jr_NZ_e8 _ => (0x20#8, none)
  | .ld_HL_d16 _ => (0x21#8, none) | .ld_mHLi_A => (0x22#8, none) | .inc_HL => (0x23#8, none)
  | .inc_H => (0x24#8, none) | .dec_H => (0x25#8, none) | .ld_H_d8 _ => (0x26#8, none)
  | .daa => (0x27#8, none) | .jr_Z_e8 _ => (0x28#8, none) | .add_HL_HL => (0x29#8, none)
  | .ld_A_mHLi => (0x2A#8, none) | .dec_HL => (0x2B#8, none) | .inc_L => (0x2C#8, none)
  | .dec_L => (0x2D#8, none) | .ld_L_d8 _ => (0x2E#8, none) | .cpl => (0x2F#8, none)
  | .jr_NC_e8 _ => (0x30#8, none) | .ld_SP_d16 _ => (0x31#8, none) | .ld_mHLd_A => (0x32#8, none)
  | .inc_SP => (0x33#8, none) | .inc_mHL => (0x34#8, none) | .dec_mHL => (0x35#8, none)
  | .ld_mHL_d8 _ => (0x36#8, none) | .scf => (0x37#8, none) | .jr_C_e8 _ => (0x38#8, none)
  | .add_HL_SP => (0x39#8, none) | .ld_A_mHLd => (0x3A#8, none) | .dec_SP => (0x3B#8, none)
  | .inc_A => (0x3C#8, none) | .dec_A => (0x3D#8, none) | .ld_A_d8 _ => (0x3E#8, none)
  | .ccf => (0x3F#8, none) | .ld_B_B => (0x40#8, none) | .ld_B_C => (0x41#8, none) | .ld_B_D => (0x42#8, none)
  | .ld_B_E => (0x43#8, none) | .ld_B_H => (0x44#8, none) | .ld_B_L => (0x45#8, none)
  | .ld_B_mHL => (0x46#8, none) | .ld_B_A => (0x47#8, none) | .ld_C_B => (0x48#8, none)
  | .ld_C_C => (0x49#8, none) | .ld_C_D => (0x4A#8, none) | .ld_C_E => (0x4B#8, none)
  | .ld_C_H => (0x4C#8, none) | .ld_C_L => (0x4D#8, none) | .ld_C_mHL => (0x4E#8, none)
  | .ld_C_A => (0x4F#8, none) | .ld_D_B => (0x50#8, none) | .ld_D_C => (0x51#8, none)
  | .ld_D_D => (0x52#8, none) | .ld_D_E => (0x53#8, none) | .ld_D_H => (0x54#8, none)
  | .ld_D_L => (0x55#8, none) | .ld_D_mHL => (0x56#8, none) | .ld_D_A => (0x57#8, none)
  | .ld_E_B => (0x58#8, none) | .ld_E_C => (0x59#8, none) | .ld_E_D => (0x5A#8, none)
  | .ld_E_E => (0x5B#8, none) | .ld_E_H => (0x5C#8, none) | .ld_E_L => (0x5D#8, none)
  | .ld_E_mHL => (0x5E#8, none) | .ld_E_A => (0x5F#8, none) | .ld_H_B => (0x60#8, none)
  | .ld_H_C => (0x61#8, none) | .ld_H_D => (0x62#8, none) | .ld_H_E => (0x63#8, none)
  | .ld_H_H => (0x64#8, none) | .ld_H_L => (0x65#8, none) | .ld_H_mHL => (0x66#8, none)
  | .ld_H_A => (0x67#8, none) | .ld_L_B => (0x68#8, none) | .ld_L_C => (0x69#8, none)
  | .ld_L_D => (0x6A#8, none) | .ld_L_E => (0x6B#8, none) | .ld_L_H => (0x6C#8, none)
  | .ld_L_L => (0x6D#8, none) | .ld_L_mHL => (0x6E#8, none) | .ld_L_A => (0x6F#8, none)
  | .ld_mHL_B => (0x70#8, none) | .ld_mHL_C => (0x71#8, none) | .ld_mHL_D => (0x72#8, none)
  | .ld_mHL_E => (0x73#8, none) | .ld_mHL_H => (0x74#8, none) | .ld_mHL_L => (0x75#8, none)
  | .halt => (0x76#8, none) | .ld_mHL_A => (0x77#8, none) | .ld_A_B => (0x78#8, none)
  | .ld_A_C => (0x79#8, none) | .ld_A_D => (0x7A#8, none) | .ld_A_E => (0x7B#8, none)
  | .ld_A_H => (0x7C#8, none) | .ld_A_L => (0x7D#8, none) | .ld_A_mHL => (0x7E#8, none)
  | .ld_A_A => (0x7F#8, none) | .add_A_B => (0x80#8, none) | .add_A_C => (0x81#8, none)
  | .add_A_D => (0x82#8, none) | .add_A_E => (0x83#8, none) | .add_A_H => (0x84#8, none)
  | .add_A_L => (0x85#8, none) | .add_A_mHL => (0x86#8, none) | .add_A_A => (0x87#8, none)
  | .adc_A_B => (0x88#8, none) | .adc_A_C => (0x89#8, none) | .adc_A_D => (0x8A#8, none)
  | .adc_A_E => (0x8B#8, none) | .adc_A_H => (0x8C#8, none) | .adc_A_L => (0x8D#8, none)
  | .adc_A_mHL => (0x8E#8, none) | .adc_A_A => (0x8F#8, none) | .sub_B => (0x90#8, none)
  | .sub_C => (0x91#8, none) | .sub_D => (0x92#8, none) | .sub_E => (0x93#8, none) | .sub_H => (0x94#8, none)
  | .sub_L => (0x95#8, none) | .sub_mHL => (0x96#8, none) | .sub_A => (0x97#8, none)
  | .sbc_A_B => (0x98#8, none) | .sbc_A_C => (0x99#8, none) | .sbc_A_D => (0x9A#8, none)
  | .sbc_A_E => (0x9B#8, none) | .sbc_A_H => (0x9C#8, none) | .sbc_A_L => (0x9D#8, none)
  | .sbc_A_mHL => (0x9E#8, none) | .sbc_A_A => (0x9F#8, none) | .and_B => (0xA0#8, none)
  | .and_C => (0xA1#8, none) | .and_D => (0xA2#8, none) | .and_E => (0xA3#8, none) | .and_H => (0xA4#8, none)
  | .and_L => (0xA5#8, none) | .and_mHL => (0xA6#8, none) | .and_A => (0xA7#8, none)
  | .xor_B => (0xA8#8, none) | .xor_C => (0xA9#8, none) | .xor_D => (0xAA#8, none) | .xor_E => (0xAB#8, none)
  | .xor_H => (0xAC#8, none) | .xor_L => (0xAD#8, none) | .xor_mHL => (0xAE#8, none)
  | .xor_A => (0xAF#8, none) | .or_B => (0xB0#8, none) | .or_C => (0xB1#8, none) | .or_D => (0xB2#8, none)
  | .or_E => (0xB3#8, none) | .or_H => (0xB4#8, none) | .or_L => (0xB5#8, none) | .or_mHL => (0xB6#8, none)
  | .or_A => (0xB7#8, none) | .cp_B => (0xB8#8, none) | .cp_C => (0xB9#8, none) | .cp_D => (0xBA#8, none)
  | .cp_E => (0xBB#8, none) | .cp_H => (0xBC#8, none) | .cp_L => (0xBD#8, none) | .cp_mHL => (0xBE#8, none)
  | .cp_A => (0xBF#8, none) | .ret_NZ => (0xC0#8, none) | .pop_BC => (0xC1#8, none)
  | .jp_NZ_a16 _ => (0xC2#8, none) | .jp_a16 _ => (0xC3#8, none) | .call_NZ_a16 _ => (0xC4#8, none)
  | .push_BC => (0xC5#8, none) | .add_A_d8 _ => (0xC6#8, none) | .rst_00 => (0xC7#8, none)
  | .ret_Z => (0xC8#8, none) | .ret => (0xC9#8, none) | .jp_Z_a16 _ => (0xCA#8, none)
  | .call_Z_a16 _ => (0xCC#8, none) | .call_a16 _ => (0xCD#8, none) | .adc_A_d8 _ => (0xCE#8, none)
  | .rst_08 => (0xCF#8, none) | .ret_NC => (0xD0#8, none) | .pop_DE => (0xD1#8, none)
  | .jp_NC_a16 _ => (0xD2#8, none) | .undefined_D3 => (0xD3#8, none) | .call_NC_a16 _ => (0xD4#8, none)
  | .push_DE => (0xD5#8, none) | .sub_d8 _ => (0xD6#8, none) | .rst_10 => (0xD7#8, none)
  | .ret_C => (0xD8#8, none) | .reti => (0xD9#8, none) | .jp_C_a16 _ => (0xDA#8, none)
  | .undefined_DB => (0xDB#8, none) | .call_C_a16 _ => (0xDC#8, none) | .undefined_DD => (0xDD#8, none)
  | .sbc_A_d8 _ => (0xDE#8, none) | .rst_18 => (0xDF#8, none) | .ldh_ma8_A _ => (0xE0#8, none)
  | .pop_HL => (0xE1#8, none) | .ldh_mC_A => (0xE2#8, none) | .undefined_E3 => (0xE3#8, none)
  | .undefined_E4 => (0xE4#8, none) | .push_HL => (0xE5#8, none) | .and_d8 _ => (0xE6#8, none)
  | .rst_20 => (0xE7#8, none) | .add_SP_e8 _ => (0xE8#8, none) | .jp_HL => (0xE9#8, none)
  | .ld_ma16_A _ => (0xEA#8, none) | .undefined_EB => (0xEB#8, none) | .undefined_EC => (0xEC#8, none)
  | .undefined_ED => (0xED#8, none) | .xor_d8 _ => (0xEE#8, none) | .rst_28 => (0xEF#8, none)
  | .ldh_A_ma8 _ => (0xF0#8, none) | .pop_AF => (0xF1#8, none) | .ldh_A_mC => (0xF2#8, none)
  | .di => (0xF3#8, none) | .undefined_F4 => (0xF4#8, none) | .push_AF => (0xF5#8, none)
  | .or_d8 _ => (0xF6#8, none) | .rst_30 => (0xF7#8, none) | .ld_HL_SPe8 _ => (0xF8#8, none)
  | .ld_SP_HL => (0xF9#8, none) | .ld_A_ma16 _ => (0xFA#8, none) | .ei => (0xFB#8, none)
  | .undefined_FC => (0xFC#8, none) | .undefined_FD => (0xFD#8, none) | .cp_d8 _ => (0xFE#8, none)
  | .rst_38 => (0xFF#8, none) | .rlc_B => (0xCB#8, some 0x00#8) | .rlc_C => (0xCB#8, some 0x01#8)
  | .rlc_D => (0xCB#8, some 0x02#8) | .rlc_E => (0xCB#8, some 0x03#8) | .rlc_H => (0xCB#8, some 0x04#8)
  | .rlc_L => (0xCB#8, some 0x05#8) | .rlc_mHL => (0xCB#8, some 0x06#8) | .rlc_A => (0xCB#8, some 0x07#8)
  | .rrc_B => (0xCB#8, some 0x08#8) | .rrc_C => (0xCB#8, some 0x09#8) | .rrc_D => (0xCB#8, some 0x0A#8)
  | .rrc_E => (0xCB#8, some 0x0B#8) | .rrc_H => (0xCB#8, some 0x0C#8) | .rrc_L => (0xCB#8, some 0x0D#8)
  | .rrc_mHL => (0xCB#8, some 0x0E#8) | .rrc_A => (0xCB#8, some 0x0F#8) | .rl_B => (0xCB#8, some 0x10#8)
  | .rl_C => (0xCB#8, some 0x11#8) | .rl_D => (0xCB#8, some 0x12#8) | .rl_E => (0xCB#8, some 0x13#8)
  | .rl_H => (0xCB#8, some 0x14#8) | .rl_L => (0xCB#8, some 0x15#8) | .rl_mHL => (0xCB#8, some 0x16#8)
  | .rl_A => (0xCB#8, some 0x17#8) | .rr_B => (0xCB#8, some 0x18#8) | .rr_C => (0xCB#8, some 0x19#8)
  | .rr_D => (0xCB#8, some 0x1A#8) | .rr_E => (0xCB#8, some 0x1B#8) | .rr_H => (0xCB#8, some 0x1C#8)
  | .rr_L => (0xCB#8, some 0x1D#8) | .rr_mHL => (0xCB#8, some 0x1E#8) | .rr_A => (0xCB#8, some 0x1F#8)
  | .sla_B => (0xCB#8, some 0x20#8) | .sla_C => (0xCB#8, some 0x21#8) | .sla_D => (0xCB#8, some 0x22#8)
  | .sla_E => (0xCB#8, some 0x23#8) | .sla_H => (0xCB#8, some 0x24#8) | .sla_L => (0xCB#8, some 0x25#8)
  | .sla_mHL => (0xCB#8, some 0x26#8) | .sla_A => (0xCB#8, some 0x27#8) | .sra_B => (0xCB#8, some 0x28#8)
  | .sra_C => (0xCB#8, some 0x29#8) | .sra_D => (0xCB#8, some 0x2A#8) | .sra_E => (0xCB#8, some 0x2B#8)
  | .sra_H => (0xCB#8, some 0x2C#8) | .sra_L => (0xCB#8, some 0x2D#8) | .sra_mHL => (0xCB#8, some 0x2E#8)
  | .sra_A => (0xCB#8, some 0x2F#8) | .swap_B => (0xCB#8, some 0x30#8) | .swap_C => (0xCB#8, some 0x31#8)
  | .swap_D => (0xCB#8, some 0x32#8) | .swap_E => (0xCB#8, some 0x33#8) | .swap_H => (0xCB#8, some 0x34#8)
  | .swap_L => (0xCB#8, some 0x35#8) | .swap_mHL => (0xCB#8, some 0x36#8) | .swap_A => (0xCB#8, some 0x37#8)
  | .srl_B => (0xCB#8, some 0x38#8) | .srl_C => (0xCB#8, some 0x39#8) | .srl_D => (0xCB#8, some 0x3A#8)
  | .srl_E => (0xCB#8, some 0x3B#8) | .srl_H => (0xCB#8, some 0x3C#8) | .srl_L => (0xCB#8, some 0x3D#8)
  | .srl_mHL => (0xCB#8, some 0x3E#8) | .srl_A => (0xCB#8, some 0x3F#8) | .bit_0_B => (0xCB#8, some 0x40#8)
  | .bit_0_C => (0xCB#8, some 0x41#8) | .bit_0_D => (0xCB#8, some 0x42#8) | .bit_0_E => (0xCB#8, some 0x43#8)
  | .bit_0_H => (0xCB#8, some 0x44#8) | .bit_0_L => (0xCB#8, some 0x45#8)
  | .bit_0_mHL => (0xCB#8, some 0x46#8) | .bit_0_A => (0xCB#8, some 0x47#8)
  | .bit_1_B => (0xCB#8, some 0x48#8) | .bit_1_C => (0xCB#8, some 0x49#8) | .bit_1_D => (0xCB#8, some 0x4A#8)
  | .bit_1_E => (0xCB#8, some 0x4B#8) | .bit_1_H => (0xCB#8, some 0x4C#8) | .bit_1_L => (0xCB#8, some 0x4D#8)
  | .bit_1_mHL => (0xCB#8, some 0x4E#8) | .bit_1_A => (0xCB#8, some 0x4F#8)
  | .bit_2_B => (0xCB#8, some 0x50#8) | .bit_2_C => (0xCB#8, some 0x51#8) | .bit_2_D => (0xCB#8, some 0x52#8)
  | .bit_2_E => (0xCB#8, some 0x53#8) | .bit_2_H => (0xCB#8, some 0x54#8) | .bit_2_L => (0xCB#8, some 0x55#8)
  | .bit_2_mHL => (0xCB#8, some 0x56#8) | .bit_2_A => (0xCB#8, some 0x57#8)
  | .bit_3_B => (0xCB#8, some 0x58#8) | .bit_3_C => (0xCB#8, some 0x59#8) | .bit_3_D => (0xCB#8, some 0x5A#8)
  | .bit_3_E => (0xCB#8, some 0x5B#8) | .bit_3_H => (0xCB#8, some 0x5C#8) | .bit_3_L => (0xCB#8, some 0x5D#8)
  | .bit_3_mHL => (0xCB#8, some 0x5E#8) | .bit_3_A => (0xCB#8, some 0x5F#8)
  | .bit_4_B => (0xCB#8, some 0x60#8) | .bit_4_C => (0xCB#8, some 0x61#8) | .bit_4_D => (0xCB#8, some 0x62#8)
  | .bit_4_E => (0xCB#8, some 0x63#8) | .bit_4_H => (0xCB#8, some 0x64#8) | .bit_4_L => (0xCB#8, some 0x65#8)
  | .bit_4_mHL => (0xCB#8, some 0x66#8) | .bit_4_A => (0xCB#8, some 0x67#8)
  | .bit_5_B => (0xCB#8, some 0x68#8) | .bit_5_C => (0xCB#8, some 0x69#8) | .bit_5_D => (0xCB#8, some 0x6A#8)
  | .bit_5_E => (0xCB#8, some 0x6B#8) | .bit_5_H => (0xCB#8, some 0x6C#8) | .bit_5_L => (0xCB#8, some 0x6D#8)
  | .bit_5_mHL => (0xCB#8, some 0x6E#8) | .bit_5_A => (0xCB#8, some 0x6F#8)
  | .bit_6_B => (0xCB#8, some 0x70#8) | .bit_6_C => (0xCB#8, some 0x71#8) | .bit_6_D => (0xCB#8, some 0x72#8)
  | .bit_6_E => (0xCB#8, some 0x73#8) | .bit_6_H => (0xCB#8, some 0x74#8) | .bit_6_L => (0xCB#8, some 0x75#8)
  | .bit_6_mHL => (0xCB#8, some 0x76#8) | .bit_6_A => (0xCB#8, some 0x77#8)
  | .bit_7_B => (0xCB#8, some 0x78#8) | .bit_7_C => (0xCB#8, some 0x79#8) | .bit_7_D => (0xCB#8, some 0x7A#8)
  | .bit_7_E => (0xCB#8, some 0x7B#8) | .bit_7_H => (0xCB#8, some 0x7C#8) | .bit_7_L => (0xCB#8, some 0x7D#8)
  | .bit_7_mHL => (0xCB#8, some 0x7E#8) | .bit_7_A => (0xCB#8, some 0x7F#8)
  | .res_0_B => (0xCB#8, some 0x80#8) | .res_0_C => (0xCB#8, some 0x81#8) | .res_0_D => (0xCB#8, some 0x82#8)
  | .res_0_E => (0xCB#8, some 0x83#8) | .res_0_H => (0xCB#8, some 0x84#8) | .res_0_L => (0xCB#8, some 0x85#8)
  | .res_0_mHL => (0xCB#8, some 0x86#8) | .res_0_A => (0xCB#8, some 0x87#8)
  | .res_1_B => (0xCB#8, some 0x88#8) | .res_1_C => (0xCB#8, some 0x89#8) | .res_1_D => (0xCB#8, some 0x8A#8)
  | .res_1_E => (0xCB#8, some 0x8B#8) | .res_1_H => (0xCB#8, some 0x8C#8) | .res_1_L => (0xCB#8, some 0x8D#8)
  | .res_1_mHL => (0xCB#8, some 0x8E#8) | .res_1_A => (0xCB#8, some 0x8F#8)
  | .res_2_B => (0xCB#8, some 0x90#8) | .res_2_C => (0xCB#8, some 0x91#8) | .res_2_D => (0xCB#8, some 0x92#8)
  | .res_2_E => (0xCB#8, some 0x93#8) | .res_2_H => (0xCB#8, some 0x94#8) | .res_2_L => (0xCB#8, some 0x95#8)
  | .res_2_mHL => (0xCB#8, some 0x96#8) | .res_2_A => (0xCB#8, some 0x97#8)
  | .res_3_B => (0xCB#8, some 0x98#8) | .res_3_C => (0xCB#8, some 0x99#8) | .res_3_D => (0xCB#8, some 0x9A#8)
  | .res_3_E => (0xCB#8, some 0x9B#8) | .res_3_H => (0xCB#8, some 0x9C#8) | .res_3_L => (0xCB#8, some 0x9D#8)
  | .res_3_mHL => (0xCB#8, some 0x9E#8) | .res_3_A => (0xCB#8, some 0x9F#8)
  | .res_4_B => (0xCB#8, some 0xA0#8) | .res_4_C => (0xCB#8, some 0xA1#8) | .res_4_D => (0xCB#8, some 0xA2#8)
  | .res_4_E => (0xCB#8, some 0xA3#8) | .res_4_H => (0xCB#8, some 0xA4#8) | .res_4_L => (0xCB#8, some 0xA5#8)
  | .res_4_mHL => (0xCB#8, some 0xA6#8) | .res_4_A => (0xCB#8, some 0xA7#8)
  | .res_5_B => (0xCB#8, some 0xA8#8) | .res_5_C => (0xCB#8, some 0xA9#8) | .res_5_D => (0xCB#8, some 0xAA#8)
  | .res_5_E => (0xCB#8, some 0xAB#8) | .res_5_H => (0xCB#8, some 0xAC#8) | .res_5_L => (0xCB#8, some 0xAD#8)
  | .res_5_mHL => (0xCB#8, some 0xAE#8) | .res_5_A => (0xCB#8, some 0xAF#8)
  | .res_6_B => (0xCB#8, some 0xB0#8) | .res_6_C => (0xCB#8, some 0xB1#8) | .res_6_D => (0xCB#8, some 0xB2#8)
  | .res_6_E => (0xCB#8, some 0xB3#8) | .res_6_H => (0xCB#8, some 0xB4#8) | .res_6_L => (0xCB#8, some 0xB5#8)
  | .res_6_mHL => (0xCB#8, some 0xB6#8) | .res_6_A => (0xCB#8, some 0xB7#8)
  | .res_7_B => (0xCB#8, some 0xB8#8) | .res_7_C => (0xCB#8, some 0xB9#8) | .res_7_D => (0xCB#8, some 0xBA#8)
  | .res_7_E => (0xCB#8, some 0xBB#8) | .res_7_H => (0xCB#8, some 0xBC#8) | .res_7_L => (0xCB#8, some 0xBD#8)
  | .res_7_mHL => (0xCB#8, some 0xBE#8) | .res_7_A => (0xCB#8, some 0xBF#8)
  | .set_0_B => (0xCB#8, some 0xC0#8) | .set_0_C => (0xCB#8, some 0xC1#8) | .set_0_D => (0xCB#8, some 0xC2#8)
  | .set_0_E => (0xCB#8, some 0xC3#8) | .set_0_H => (0xCB#8, some 0xC4#8) | .set_0_L => (0xCB#8, some 0xC5#8)
  | .set_0_mHL => (0xCB#8, some 0xC6#8) | .set_0_A => (0xCB#8, some 0xC7#8)
  | .set_1_B => (0xCB#8, some 0xC8#8) | .set_1_C => (0xCB#8, some 0xC9#8) | .set_1_D => (0xCB#8, some 0xCA#8)
  | .set_1_E => (0xCB#8, some 0xCB#8) | .set_1_H => (0xCB#8, some 0xCC#8) | .set_1_L => (0xCB#8, some 0xCD#8)
  | .set_1_mHL => (0xCB#8, some 0xCE#8) | .set_1_A => (0xCB#8, some 0xCF#8)
  | .set_2_B => (0xCB#8, some 0xD0#8) | .set_2_C => (0xCB#8, some 0xD1#8) | .set_2_D => (0xCB#8, some 0xD2#8)
  | .set_2_E => (0xCB#8, some 0xD3#8) | .set_2_H => (0xCB#8, some 0xD4#8) | .set_2_L => (0xCB#8, some 0xD5#8)
  | .set_2_mHL => (0xCB#8, some 0xD6#8) | .set_2_A => (0xCB#8, some 0xD7#8)
  | .set_3_B => (0xCB#8, some 0xD8#8) | .set_3_C => (0xCB#8, some 0xD9#8) | .set_3_D => (0xCB#8, some 0xDA#8)
  | .set_3_E => (0xCB#8, some 0xDB#8) | .set_3_H => (0xCB#8, some 0xDC#8) | .set_3_L => (0xCB#8, some 0xDD#8)
  | .set_3_mHL => (0xCB#8, some 0xDE#8) | .set_3_A => (0xCB#8, some 0xDF#8)
  | .set_4_B => (0xCB#8, some 0xE0#8) | .set_4_C => (0xCB#8, some 0xE1#8) | .set_4_D => (0xCB#8, some 0xE2#8)
  | .set_4_E => (0xCB#8, some 0xE3#8) | .set_4_H => (0xCB#8, some 0xE4#8) | .set_4_L => (0xCB#8, some 0xE5#8)
  | .set_4_mHL => (0xCB#8, some 0xE6#8) | .set_4_A => (0xCB#8, some 0xE7#8)
  | .set_5_B => (0xCB#8, some 0xE8#8) | .set_5_C => (0xCB#8, some 0xE9#8) | .set_5_D => (0xCB#8, some 0xEA#8)
  | .set_5_E => (0xCB#8, some 0xEB#8) | .set_5_H => (0xCB#8, some 0xEC#8) | .set_5_L => (0xCB#8, some 0xED#8)
  | .set_5_mHL => (0xCB#8, some 0xEE#8) | .set_5_A => (0xCB#8, some 0xEF#8)
  | .set_6_B => (0xCB#8, some 0xF0#8) | .set_6_C => (0xCB#8, some 0xF1#8) | .set_6_D => (0xCB#8, some 0xF2#8)
  | .set_6_E => (0xCB#8, some 0xF3#8) | .set_6_H => (0xCB#8, some 0xF4#8) | .set_6_L => (0xCB#8, some 0xF5#8)
  | .set_6_mHL => (0xCB#8, some 0xF6#8) | .set_6_A => (0xCB#8, some 0xF7#8)
  | .set_7_B => (0xCB#8, some 0xF8#8) | .set_7_C => (0xCB#8, some 0xF9#8) | .set_7_D => (0xCB#8, some 0xFA#8)
  | .set_7_E => (0xCB#8, some 0xFB#8) | .set_7_H => (0xCB#8, some 0xFC#8) | .set_7_L => (0xCB#8, some 0xFD#8)
  | .set_7_mHL => (0xCB#8, some 0xFE#8) | .set_7_A => (0xCB#8, some 0xFF#8)

/-- The immediate bytes, the byte at the lower address first (R102, R110). -/
def Instr.immediate : Instr → List Byte
  | .ld_B_d8 x | .ld_C_d8 x | .stop x | .ld_D_d8 x | .jr_e8 x | .ld_E_d8 x | .jr_NZ_e8 x | .ld_H_d8 x
  | .jr_Z_e8 x | .ld_L_d8 x | .jr_NC_e8 x | .ld_mHL_d8 x | .jr_C_e8 x | .ld_A_d8 x | .add_A_d8 x | .adc_A_d8 x
  | .sub_d8 x | .sbc_A_d8 x | .ldh_ma8_A x | .and_d8 x | .add_SP_e8 x | .xor_d8 x | .ldh_A_ma8 x | .or_d8 x
  | .ld_HL_SPe8 x | .cp_d8 x => [x]
  | .ld_BC_d16 x | .ld_ma16_SP x | .ld_DE_d16 x | .ld_HL_d16 x | .ld_SP_d16 x | .jp_NZ_a16 x | .jp_a16 x
  | .call_NZ_a16 x | .jp_Z_a16 x | .call_Z_a16 x | .call_a16 x | .jp_NC_a16 x | .call_NC_a16 x | .jp_C_a16 x
  | .call_C_a16 x | .ld_ma16_A x | .ld_A_ma16 x => [loByte x, hiByte x]
  | .nop | .ld_mBC_A | .inc_BC | .inc_B | .dec_B | .rlca | .add_HL_BC | .ld_A_mBC | .dec_BC | .inc_C | .dec_C
  | .rrca | .ld_mDE_A | .inc_DE | .inc_D | .dec_D | .rla | .add_HL_DE | .ld_A_mDE | .dec_DE | .inc_E | .dec_E
  | .rra | .ld_mHLi_A | .inc_HL | .inc_H | .dec_H | .daa | .add_HL_HL | .ld_A_mHLi | .dec_HL | .inc_L | .dec_L
  | .cpl | .ld_mHLd_A | .inc_SP | .inc_mHL | .dec_mHL | .scf | .add_HL_SP | .ld_A_mHLd | .dec_SP | .inc_A
  | .dec_A | .ccf | .ld_B_B | .ld_B_C | .ld_B_D | .ld_B_E | .ld_B_H | .ld_B_L | .ld_B_mHL | .ld_B_A | .ld_C_B
  | .ld_C_C | .ld_C_D | .ld_C_E | .ld_C_H | .ld_C_L | .ld_C_mHL | .ld_C_A | .ld_D_B | .ld_D_C | .ld_D_D
  | .ld_D_E | .ld_D_H | .ld_D_L | .ld_D_mHL | .ld_D_A | .ld_E_B | .ld_E_C | .ld_E_D | .ld_E_E | .ld_E_H
  | .ld_E_L | .ld_E_mHL | .ld_E_A | .ld_H_B | .ld_H_C | .ld_H_D | .ld_H_E | .ld_H_H | .ld_H_L | .ld_H_mHL
  | .ld_H_A | .ld_L_B | .ld_L_C | .ld_L_D | .ld_L_E | .ld_L_H | .ld_L_L | .ld_L_mHL | .ld_L_A | .ld_mHL_B
  | .ld_mHL_C | .ld_mHL_D | .ld_mHL_E | .ld_mHL_H | .ld_mHL_L | .halt | .ld_mHL_A | .ld_A_B | .ld_A_C
  | .ld_A_D | .ld_A_E | .ld_A_H | .ld_A_L | .ld_A_mHL | .ld_A_A | .add_A_B | .add_A_C | .add_A_D | .add_A_E
  | .add_A_H | .add_A_L | .add_A_mHL | .add_A_A | .adc_A_B | .adc_A_C | .adc_A_D | .adc_A_E | .adc_A_H
  | .adc_A_L | .adc_A_mHL | .adc_A_A | .sub_B | .sub_C | .sub_D | .sub_E | .sub_H | .sub_L | .sub_mHL | .sub_A
  | .sbc_A_B | .sbc_A_C | .sbc_A_D | .sbc_A_E | .sbc_A_H | .sbc_A_L | .sbc_A_mHL | .sbc_A_A | .and_B | .and_C
  | .and_D | .and_E | .and_H | .and_L | .and_mHL | .and_A | .xor_B | .xor_C | .xor_D | .xor_E | .xor_H
  | .xor_L | .xor_mHL | .xor_A | .or_B | .or_C | .or_D | .or_E | .or_H | .or_L | .or_mHL | .or_A | .cp_B
  | .cp_C | .cp_D | .cp_E | .cp_H | .cp_L | .cp_mHL | .cp_A | .ret_NZ | .pop_BC | .push_BC | .rst_00 | .ret_Z
  | .ret | .rst_08 | .ret_NC | .pop_DE | .undefined_D3 | .push_DE | .rst_10 | .ret_C | .reti | .undefined_DB
  | .undefined_DD | .rst_18 | .pop_HL | .ldh_mC_A | .undefined_E3 | .undefined_E4 | .push_HL | .rst_20
  | .jp_HL | .undefined_EB | .undefined_EC | .undefined_ED | .rst_28 | .pop_AF | .ldh_A_mC | .di
  | .undefined_F4 | .push_AF | .rst_30 | .ld_SP_HL | .ei | .undefined_FC | .undefined_FD | .rst_38 | .rlc_B
  | .rlc_C | .rlc_D | .rlc_E | .rlc_H | .rlc_L | .rlc_mHL | .rlc_A | .rrc_B | .rrc_C | .rrc_D | .rrc_E
  | .rrc_H | .rrc_L | .rrc_mHL | .rrc_A | .rl_B | .rl_C | .rl_D | .rl_E | .rl_H | .rl_L | .rl_mHL | .rl_A
  | .rr_B | .rr_C | .rr_D | .rr_E | .rr_H | .rr_L | .rr_mHL | .rr_A | .sla_B | .sla_C | .sla_D | .sla_E
  | .sla_H | .sla_L | .sla_mHL | .sla_A | .sra_B | .sra_C | .sra_D | .sra_E | .sra_H | .sra_L | .sra_mHL
  | .sra_A | .swap_B | .swap_C | .swap_D | .swap_E | .swap_H | .swap_L | .swap_mHL | .swap_A | .srl_B | .srl_C
  | .srl_D | .srl_E | .srl_H | .srl_L | .srl_mHL | .srl_A | .bit_0_B | .bit_0_C | .bit_0_D | .bit_0_E
  | .bit_0_H | .bit_0_L | .bit_0_mHL | .bit_0_A | .bit_1_B | .bit_1_C | .bit_1_D | .bit_1_E | .bit_1_H
  | .bit_1_L | .bit_1_mHL | .bit_1_A | .bit_2_B | .bit_2_C | .bit_2_D | .bit_2_E | .bit_2_H | .bit_2_L
  | .bit_2_mHL | .bit_2_A | .bit_3_B | .bit_3_C | .bit_3_D | .bit_3_E | .bit_3_H | .bit_3_L | .bit_3_mHL
  | .bit_3_A | .bit_4_B | .bit_4_C | .bit_4_D | .bit_4_E | .bit_4_H | .bit_4_L | .bit_4_mHL | .bit_4_A
  | .bit_5_B | .bit_5_C | .bit_5_D | .bit_5_E | .bit_5_H | .bit_5_L | .bit_5_mHL | .bit_5_A | .bit_6_B
  | .bit_6_C | .bit_6_D | .bit_6_E | .bit_6_H | .bit_6_L | .bit_6_mHL | .bit_6_A | .bit_7_B | .bit_7_C
  | .bit_7_D | .bit_7_E | .bit_7_H | .bit_7_L | .bit_7_mHL | .bit_7_A | .res_0_B | .res_0_C | .res_0_D
  | .res_0_E | .res_0_H | .res_0_L | .res_0_mHL | .res_0_A | .res_1_B | .res_1_C | .res_1_D | .res_1_E
  | .res_1_H | .res_1_L | .res_1_mHL | .res_1_A | .res_2_B | .res_2_C | .res_2_D | .res_2_E | .res_2_H
  | .res_2_L | .res_2_mHL | .res_2_A | .res_3_B | .res_3_C | .res_3_D | .res_3_E | .res_3_H | .res_3_L
  | .res_3_mHL | .res_3_A | .res_4_B | .res_4_C | .res_4_D | .res_4_E | .res_4_H | .res_4_L | .res_4_mHL
  | .res_4_A | .res_5_B | .res_5_C | .res_5_D | .res_5_E | .res_5_H | .res_5_L | .res_5_mHL | .res_5_A
  | .res_6_B | .res_6_C | .res_6_D | .res_6_E | .res_6_H | .res_6_L | .res_6_mHL | .res_6_A | .res_7_B
  | .res_7_C | .res_7_D | .res_7_E | .res_7_H | .res_7_L | .res_7_mHL | .res_7_A | .set_0_B | .set_0_C
  | .set_0_D | .set_0_E | .set_0_H | .set_0_L | .set_0_mHL | .set_0_A | .set_1_B | .set_1_C | .set_1_D
  | .set_1_E | .set_1_H | .set_1_L | .set_1_mHL | .set_1_A | .set_2_B | .set_2_C | .set_2_D | .set_2_E
  | .set_2_H | .set_2_L | .set_2_mHL | .set_2_A | .set_3_B | .set_3_C | .set_3_D | .set_3_E | .set_3_H
  | .set_3_L | .set_3_mHL | .set_3_A | .set_4_B | .set_4_C | .set_4_D | .set_4_E | .set_4_H | .set_4_L
  | .set_4_mHL | .set_4_A | .set_5_B | .set_5_C | .set_5_D | .set_5_E | .set_5_H | .set_5_L | .set_5_mHL
  | .set_5_A | .set_6_B | .set_6_C | .set_6_D | .set_6_E | .set_6_H | .set_6_L | .set_6_mHL | .set_6_A
  | .set_7_B | .set_7_C | .set_7_D | .set_7_E | .set_7_H | .set_7_L | .set_7_mHL | .set_7_A => []

/-- The bytes of an instruction (R102). -/
def encode (i : Instr) : List Byte :=
  match i.opcode with
  | (op, none) => op :: i.immediate
  | (op, some op2) => op :: op2 :: i.immediate

/-- The length in bytes. -/
def Instr.length (i : Instr) : Nat := (encode i).length

/-- The condition a conditional opcode tests (R112), `none` for every other opcode. -/
def condOfOpcode (op : Byte) : Option Cond :=
  if fieldX op = 0 ∧ fieldZ op = 0 ∧ 4 ≤ fieldY op then some (ccAt (fieldY op - 4))
  else if fieldX op = 3 ∧ fieldY op < 4 ∧ (fieldZ op = 0 ∨ fieldZ op = 2 ∨ fieldZ op = 4) then some (ccAt (fieldY op))
  else none

end Sys2Proof
end

