-- ==== Sys2Proof/Machine/State.lean ====
section
/-! DEFINITION. The state of 10_state.md as plain data, its reset value (70_reset_and_hazards.md R451), and the reasons a
step can stop (00_scope.md R13). -/
namespace Sys2Proof.Machine

/-- The seven general registers (R20). -/
structure Regs where
  a : Byte
  b : Byte
  c : Byte
  d : Byte
  e : Byte
  h : Byte
  l : Byte
  deriving DecidableEq, Repr

/-- The four flags fZ, fN, fH, fC (R21). -/
structure Flags where
  z : Bool
  n : Bool
  h : Bool
  c : Bool
  deriving DecidableEq, Repr

/-- The timer (R34 to R36). The accumulators are counts and so natural numbers. -/
structure Timer where
  /-- `DIV`, bus 0xFF04 -/
  div : Byte
  /-- `div_acc`, 0..255 -/
  divAcc : Nat
  /-- `TIMA`, bus 0xFF05 -/
  tima : Byte
  /-- `TMA`, bus 0xFF06 -/
  tma : Byte
  /-- `tima_acc`, below 1024 -/
  timaAcc : Nat
  /-- `TAC`, the three stored bits: enable, select[1:0] -/
  tac : BitVec 3
  deriving DecidableEq, Repr

/-- The four states of the display-timing state machine (R38). -/
inductive LcdMode where
  | hblank
  | vblank
  | oamSearch
  | pixelTransfer
  deriving DecidableEq, Repr

/-- The display-timing state machine (R38 to R44). -/
structure Lcd where
  mode : LcdMode
  /-- the dot counter, 0..455 (R39) -/
  dot : Nat
  /-- `LY`, 0..153 (R40) -/
  ly : Nat
  /-- `LYC` (R40) -/
  lyc : Byte
  /-- the STAT enables (R41) -/
  en0 : Bool
  en1 : Bool
  en2 : Bool
  enL : Bool
  /-- the STAT latches (R42) -/
  latch0 : Bool
  latch1 : Bool
  latch2 : Bool
  latchL : Bool
  /-- the frame counter (R43) -/
  frame : Nat
  /-- `window_line` (R43) -/
  windowLine : Nat
  /-- `LCDC` (R44) -/
  lcdc : Byte
  deriving DecidableEq, Repr

/-- The bytes of `Ext`: (address, byte) pairs in the canonical form `Memory.wf`. -/
abbrev Memory := List Host.Cell

/-! `Ext` (20_memory.md R66) is an argument with two operations and a state of its own. So that any `Ext` can be supplied as
plain data, its operations are programs of a small language over its own cells (log 2). -/

/-- The operators of a chip's expressions, on natural numbers: subtraction stops at 0, division by 0 gives 0, a comparison
gives 1 or 0. -/
inductive ChipOp where
  | add | sub | mul | div | mod | and | or | xor | eq | lt
  deriving DecidableEq, Repr

/-- What a chip computes from the bus access and its cells. -/
inductive ChipExpr where
  | const (n : Nat)
  /-- the address of the access -/
  | address
  /-- the byte stored; 0 on a read -/
  | value
  /-- the cell with this index; 0 where there is none -/
  | cell (i : ChipExpr)
  | op (o : ChipOp) (x y : ChipExpr)
  /-- the second where the first is not 0, otherwise the third -/
  | ite (c x y : ChipExpr)
  deriving DecidableEq, Repr

/-- What a chip does on a bus access. -/
inductive ChipProg where
  /-- done; on a read this is the byte returned, modulo 256 -/
  | done (e : ChipExpr)
  /-- raise AddressingError -/
  | refuse
  /-- write a cell, where there is one with this index, and go on -/
  | set (i e : ChipExpr) (next : ChipProg)
  /-- go on with the second where the first is not 0, otherwise with the third -/
  | branch (c : ChipExpr) (p q : ChipProg)
  deriving DecidableEq, Repr

/-- A device or cartridge behind the bus: its own state, and its `read` and `write` (R66). -/
structure Chip where
  cells : List Nat
  onRead : ChipProg
  onWrite : ChipProg
  deriving DecidableEq, Repr

/-- How a range of `Ext` answers a read. -/
inductive ReadKind where
  /-- the stored byte -/
  | memory
  /-- always this byte: "unmapped reads" (R66) -/
  | fixed (v : Byte)
  | chip
  /-- AddressingError (R67) -/
  | refuse
  deriving DecidableEq, Repr

/-- How a range of `Ext` takes a write. -/
inductive WriteKind where
  | memory
  | ignore
  | chip
  /-- AddressingError (R67) -/
  | refuse
  deriving DecidableEq, Repr

/-- A range of addresses, both ends included, that answers in a way of its own. -/
structure Window where
  lo : Word
  hi : Word
  onRead : ReadKind
  onWrite : WriteKind
  deriving DecidableEq, Repr

/-- The environment `Ext` (R66) as plain data (log 2): stored bytes, windows of which the first that holds an address
decides, and the chip behind the windows that name it. With no window it is the spec's default array (D24). -/
structure Ext where
  mem : Memory
  windows : List Window
  chip : Chip
  deriving DecidableEq, Repr

/-- The spec's default `Ext` with nothing stored. -/
def Ext.default : Ext := { mem := [], windows := [], chip := { cells := [], onRead := .refuse, onWrite := .refuse } }

/-- The external requests of one machine step, one entry of IRQ_IN (60_exceptions.md R357). -/
structure ExtRequest where
  serial : Bool
  joypad : Bool
  deriving DecidableEq, Repr

/-- The five interrupt sources (60_exceptions.md R351). -/
inductive Irq where
  | vblank
  | lcdStatus
  | timer
  | serial
  | joypad
  deriving DecidableEq, Repr

/-- The machine's state (10_state.md), with the spec's step parameters `Ext`, IRQ_IN and R6 as plain data beside it. -/
structure State where
  regs : Regs
  flags : Flags
  /-- `SP` (R24) -/
  sp : Word
  /-- `PC` (R25) -/
  pc : Word
  /-- `IME` (R26) -/
  ime : Bool
  /-- `ime_pending`, used with EI_DELAY = 1 only (46_cpu_control.md R334) -/
  imePending : Bool
  /-- `halted` (R27) -/
  halted : Bool
  /-- `hq`, the halt-bug queue (R28) -/
  hq : Option Byte
  /-- `IE` (R31) -/
  ie : Byte
  /-- `IF` (R32), five stored bits -/
  ifl : BitVec 5
  timer : Timer
  lcd : Lcd
  ext : Ext
  /-- IRQ_IN from this step on: the head is applied at the end of the next step; an empty list asserts nothing (log 4) -/
  irqIn : List ExtRequest
  /-- the model's arguments (log 1); no rule writes them -/
  params : Params
  deriving DecidableEq, Repr

/-- Why the hardware stops (60_exceptions.md R352). -/
inductive Fault where
  /-- The decoder met one of the eleven undefined byte values (46_cpu_control.md R336), raised by their meanings; also
  opcode 0x10 under STOP_BEHAVIOUR = fault. Safe: the spec's own fatal condition. -/
  | undefinedOpcode (op : Byte)
  /-- `Ext` refused the address of a bus access (20_memory.md R67), raised by `memRead` and `memWrite`. Safe: the spec's
  own fatal condition. -/
  | addressingError (a : Word)
  deriving DecidableEq, Repr

/-- Why the model gives no meaning. -/
inductive Refusal where
  /-- An instruction with no meaning yet, answered by an arm of `exec` (no arm does). Safe. -/
  | notModelled (mnemonic : String)
  /-- `refuse Stop` (46_cpu_control.md R332), answered by the meaning of STOP under STOP_BEHAVIOUR = refuse. Safe. -/
  | stop
  deriving DecidableEq, Repr

/-- The argument RESET_IO (00_scope.md R6): the reset values of IME, IE, IF, the timer and the display registers. The
defaults are R49 to R52, decided D25 (log 10). -/
structure ResetIO where
  ime : Bool := false
  ie : Byte := 0#8
  ifl : BitVec 5 := 0#5
  timer : Timer := { div := 0#8, divAcc := 0, tima := 0#8, tma := 0#8, timaAcc := 0, tac := 0#3 }
  lcd : Lcd :=
    { mode := .oamSearch, dot := 0, ly := 0, lyc := 0#8, en0 := false, en1 := false, en2 := false, enL := false,
      latch0 := false, latch1 := false, latch2 := false, latchL := false, frame := 0, windowLine := 0, lcdc := 0#8 }
  deriving DecidableEq, Repr

/-- The RESET_IO that mimics the original machine after its boot ROM (93_implementation_defined.md, the last table:
general knowledge, not the spec's default). `div_acc` is any value there, so it is an argument. -/
def ResetIO.dmg (divAcc : Nat) : ResetIO :=
  { ifl := 1#5
    timer := { div := 0xAB#8, divAcc := divAcc, tima := 0#8, tma := 0#8, timaAcc := 0, tac := 0#3 }
    lcd :=
      { mode := .oamSearch, dot := 0, ly := 0, lyc := 0#8, en0 := false, en1 := false, en2 := false, enL := false,
        latch0 := false, latch1 := false, latch2 := false, latchL := false, frame := 0, windowLine := 0,
        lcdc := 0x91#8 } }

/-- The reset state for every value of the arguments (R450, R451). `F` is 0xB0, read through FLAG_BITS (10_state.md R48, R22);
registers whose width is an argument hold what fits. -/
def State.resetWith (io : ResetIO) (ext : Ext) (irqIn : List ExtRequest) (params : Params) : State :=
  { regs := { a := 0x01#8, b := 0x00#8, c := 0x13#8, d := 0x00#8, e := 0xD8#8, h := 0x01#8, l := 0x4D#8 }
    flags :=
      { z := (0xB0#8).getLsbD params.flagBits.z, n := (0xB0#8).getLsbD params.flagBits.n
        h := (0xB0#8).getLsbD params.flagBits.h, c := (0xB0#8).getLsbD params.flagBits.c }
    sp := 0xFFFE#16
    pc := 0x0100#16
    ime := io.ime
    imePending := false
    halted := false
    hq := none
    ie := io.ie &&& params.ieMask
    ifl := io.ifl
    timer := io.timer
    lcd :=
      { io.lcd with
        frame := wrapTo params.frameWidth io.lcd.frame
        windowLine := wrapTo params.windowLineWidth io.lcd.windowLine }
    ext := ext
    irqIn := irqIn
    params := params }

/-- The reset state of R451 with every argument at the default of 00_scope.md R6, STOP_BEHAVIOUR = refuse among them. `Ext` is the
default and lists nothing, IRQ_IN is never asserted. -/
def State.specReset : State := State.resetWith {} Ext.default [] {}

/-- The machine right after reset: `State.specReset` but for the one argument STOP_BEHAVIOUR, which is the admissible value that
gives opcode 0x10 an effect (46_cpu_control.md R332: `nop2`; DESIGN CHOICE, log 6). -/
def State.reset : State :=
  { State.specReset with params := { State.specReset.params with stopBehaviour := .nop2 } }

end Sys2Proof.Machine
end

