-- ==== Sys2Proof/Machine/Flags.lean ====
section
/-! DEFINITION. Every flag computation of the spec: the two adders (42_alu8.md R201, R202), the eight accumulator operations,
DAA, the 16-bit sums (43_alu16.md R241, R246), the rotates and shifts (44_rotate_shift_bit.md R261), the bit test, the `F`
view (10_state.md R22) and the branch conditions (30_encoding.md R107). -/
namespace Sys2Proof.Machine

/-- A result byte with the four flags that go with it. -/
structure AluOut where
  res : Byte
  flags : Flags
  deriving DecidableEq, Repr

/-- `v & 0x0F` as a number. -/
def lowNibble (v : Byte) : Nat := (v &&& 0x0F#8).toNat

/-- `Add8(a, v, cin)` (R201). -/
def add8 (a v : Byte) (cin : Bool) : AluOut :=
  let sum := a.toNat + v.toNat + bitNat cin
  let res := BitVec.ofNat 8 sum
  { res := res
    flags :=
      { z := res == 0#8
        n := false
        h := decide (lowNibble a + lowNibble v + bitNat cin > 0x0F)
        c := decide (sum > 0xFF) } }

/-- `Sub8(a, v, cin)` (R202). The result is `(a - v - cin) mod 256`; the comparisons are over natural numbers. -/
def sub8 (a v : Byte) (cin : Bool) : AluOut :=
  let res := a - v - BitVec.ofNat 8 (bitNat cin)
  { res := res
    flags :=
      { z := res == 0#8
        n := true
        h := decide (lowNibble a < lowNibble v + bitNat cin)
        c := decide (a.toNat < v.toNat + bitNat cin) } }

/-- The flags of AND (`h` set) and of OR and XOR (`h` clear) for a result (R208 to R210). -/
def logicOut (res : Byte) (h : Bool) : AluOut :=
  { res := res, flags := { z := res == 0#8, n := false, h := h, c := false } }

/-- `alu[i]` of the accumulator, a source byte and the carry flag (R204 to R211). The result of CP is the value left in
`A`, which CP does not write. -/
def aluOut (op : AluOp) (a v : Byte) (cin : Bool) : AluOut :=
  match op with
  | .add => add8 a v false
  | .adc => add8 a v cin
  | .sub => sub8 a v false
  | .sbc => sub8 a v cin
  | .and => logicOut (a &&& v) true
  | .xor => logicOut (a ^^^ v) false
  | .or => logicOut (a ||| v) false
  | .cp => { sub8 a v false with res := a }

/-- INC of a byte: Add8 with operand 1, carry not touched (R212). -/
def incOut (v : Byte) (f : Flags) : AluOut :=
  let o := add8 v 1#8 false
  { o with flags := { o.flags with c := f.c } }

/-- DEC of a byte: Sub8 with operand 1, carry not touched (R214). -/
def decOut (v : Byte) (f : Flags) : AluOut :=
  let o := sub8 v 1#8 false
  { o with flags := { o.flags with c := f.c } }

/-- The low adjustment of DAA applies (R216). -/
def daaLow (a : Byte) (f : Flags) : Bool := f.h || (!f.n && decide (lowNibble a > 0x09))

/-- The high adjustment of DAA applies (R216). -/
def daaHigh (a : Byte) (f : Flags) : Bool := f.c || (!f.n && decide (a.toNat > 0x99))

/-- DAA (R216; both tests read `A` before any adjustment, C6). -/
def daaOut (a : Byte) (f : Flags) : AluOut :=
  let adj : Byte := (if daaLow a f then 0x06#8 else 0x00#8) + (if daaHigh a f then 0x60#8 else 0x00#8)
  let res := if f.n then a - adj else a + adj
  { res := res, flags := { z := res == 0#8, n := f.n, h := false, c := daaHigh a f } }

/-- `Rot_k(v, cin)` (R261): the result and the carry-out. -/
def rot (k : RotOp) (v : Byte) (cin : Bool) : Byte × Bool :=
  match k with
  | .rlc => (v.extractLsb' 0 7 ++ v.extractLsb' 7 1, v.getLsbD 7)
  | .rrc => (v.extractLsb' 0 1 ++ v.extractLsb' 1 7, v.getLsbD 0)
  | .rl => (v.extractLsb' 0 7 ++ BitVec.ofBool cin, v.getLsbD 7)
  | .rr => (BitVec.ofBool cin ++ v.extractLsb' 1 7, v.getLsbD 0)
  | .sla => (v.extractLsb' 0 7 ++ 0#1, v.getLsbD 7)
  | .sra => (v.extractLsb' 7 1 ++ v.extractLsb' 1 7, v.getLsbD 0)
  | .swap => (v.extractLsb' 0 4 ++ v.extractLsb' 4 4, false)
  | .srl => (0#1 ++ v.extractLsb' 1 7, v.getLsbD 0)

/-- The 0xCB rotates and shifts with their flags (R266 to R273). -/
def rotOut (k : RotOp) (v : Byte) (f : Flags) : AluOut :=
  { res := (rot k v f.c).1, flags := { z := (rot k v f.c).1 == 0#8, n := false, h := false, c := (rot k v f.c).2 } }

/-- The accumulator short forms: the same, "but then force zero=false" (R262 to R265). -/
def rotAccOut (k : RotOp) (v : Byte) (f : Flags) : AluOut :=
  let o := rotOut k v f
  { o with flags := { o.flags with z := false } }

/-- The bit number as a number. -/
def bitIndex : BitNum → Nat
  | .b0 => 0 | .b1 => 1 | .b2 => 2 | .b3 => 3 | .b4 => 4 | .b5 => 5 | .b6 => 6 | .b7 => 7

/-- The flags after BIT (R274). -/
def bitFlags (b : BitNum) (v : Byte) (f : Flags) : Flags :=
  { z := !v.getLsbD (bitIndex b), n := false, h := true, c := f.c }

/-- The one-hot mask `1 << b` (R275, R276). -/
def bitMask (b : BitNum) : Byte := 1#8 <<< bitIndex b

/-- RES of a byte (R275). -/
def resByte (b : BitNum) (v : Byte) : Byte := v &&& ~~~bitMask b

/-- SET of a byte (R276). -/
def setByte (b : BitNum) (v : Byte) : Byte := v ||| bitMask b

/-- The flags after ADD HL,rr (R241); `clearN` is ADDHL_N = clear. -/
def addHlFlags (hl v : Word) (clearN : Bool) (f : Flags) : Flags :=
  { z := f.z
    n := if clearN then false else f.n
    h := decide ((hl &&& 0x0FFF#16).toNat + (v &&& 0x0FFF#16).toNat > 0x0FFF)
    c := decide (hl.toNat + v.toNat > 0xFFFF) }

/-- `SpAdd(e)` (R246): the sum. -/
def spAdd (sp : Word) (e : Byte) : Word := sp + sext16 e

/-- `SpAdd(e)` (R246): the flags, from the carries into bits 4 and 8. -/
def spAddFlags (sp : Word) (e : Byte) : Flags :=
  let x := sp ^^^ sext16 e ^^^ spAdd sp e
  { z := false, n := false, h := (x &&& 0x0010#16) != 0#16, c := (x &&& 0x0100#16) != 0#16 }

/-- One flag at its place. -/
def flagAt (i : Nat) (b : Bool) : Byte := if b then 1#8 <<< i else 0#8

/-- The `F` view: `{fZ, fN, fH, fC, 0, 0, 0, 0}` with the default FLAG_BITS (R22). -/
def Flags.toByte (f : Flags) (p : FlagBits) : Byte := flagAt p.z f.z ||| flagAt p.n f.n ||| flagAt p.h f.h ||| flagAt p.c f.c

/-- Writing a byte to `F` (R22): the low nibble is dropped. -/
def Flags.ofByte (p : FlagBits) (v : Byte) : Flags :=
  { z := v.getLsbD p.z, n := v.getLsbD p.n, h := v.getLsbD p.h, c := v.getLsbD p.c }

/-- `cc[i]` (R107). -/
def condHolds (cc : Cond) (f : Flags) : Bool :=
  match cc with
  | .nz => !f.z
  | .z => f.z
  | .nc => !f.c
  | .c => f.c

end Sys2Proof.Machine
end

