-- ==== Sys2Proof/Machine/Cycles.lean ====
section
/-! DEFINITION. The cycle table CYCLES (70_reset_and_hazards.md R470) and the report taken or not taken that selects a count
(45_control_flow.md R300). -/
namespace Sys2Proof.Machine

/-- The grid of R470, one list per row of it. A conditional opcode stands with its taken count; 0 stands where R470 has no
count (the undefined values and the prefix). -/
def cycleGridLow : List (List Nat) :=
  [[1, 3, 2, 2, 1, 1, 2, 1, 5, 2, 2, 2, 1, 1, 2, 1],
   [1, 3, 2, 2, 1, 1, 2, 1, 3, 2, 2, 2, 1, 1, 2, 1],
   [3, 3, 2, 2, 1, 1, 2, 1, 3, 2, 2, 2, 1, 1, 2, 1],
   [3, 3, 2, 2, 3, 3, 3, 1, 3, 2, 2, 2, 1, 1, 2, 1],
   [1, 1, 1, 1, 1, 1, 2, 1, 1, 1, 1, 1, 1, 1, 2, 1],
   [1, 1, 1, 1, 1, 1, 2, 1, 1, 1, 1, 1, 1, 1, 2, 1],
   [1, 1, 1, 1, 1, 1, 2, 1, 1, 1, 1, 1, 1, 1, 2, 1],
   [2, 2, 2, 2, 2, 2, 1, 2, 1, 1, 1, 1, 1, 1, 2, 1]]

def cycleGridHigh : List (List Nat) :=
  [[1, 1, 1, 1, 1, 1, 2, 1, 1, 1, 1, 1, 1, 1, 2, 1],
   [1, 1, 1, 1, 1, 1, 2, 1, 1, 1, 1, 1, 1, 1, 2, 1],
   [1, 1, 1, 1, 1, 1, 2, 1, 1, 1, 1, 1, 1, 1, 2, 1],
   [1, 1, 1, 1, 1, 1, 2, 1, 1, 1, 1, 1, 1, 1, 2, 1],
   [5, 3, 4, 4, 6, 4, 2, 4, 5, 4, 4, 0, 6, 6, 2, 4],
   [5, 3, 4, 0, 6, 4, 2, 4, 5, 4, 4, 0, 6, 0, 2, 4],
   [3, 3, 2, 0, 0, 4, 2, 4, 4, 1, 4, 0, 0, 0, 2, 4],
   [3, 3, 2, 1, 0, 4, 2, 4, 3, 2, 4, 1, 0, 0, 2, 4]]

/-- The count of an unprefixed opcode, taken (R470). -/
def cyclesTaken (op : Byte) : Nat := ((cycleGridLow ++ cycleGridHigh).getD (op.toNat / 16) []).getD (op.toNat % 16) 0

/-- The count of a conditional opcode, not taken (R470): JR and RET 2, JP and CALL 3. -/
def cyclesNotTaken (op : Byte) : Nat := if fieldZ op = 0 then 2 else 3

/-- The count of a 0xCB instruction, prefix included (R470). -/
def cyclesCB (op2 : Byte) : Nat := if fieldZ op2 ≠ 6 then 2 else if fieldX op2 = 1 then 3 else 4

/-- CYCLES (R470): the spec's table, or one that is given ("the model may take the table as an argument"). -/
def cycles (table : CycleTable) (i : Instr) (taken : Bool) : Nat :=
  match table, i.opcode with
  | .standard, (op, none) => if taken then cyclesTaken op else cyclesNotTaken op
  | .standard, (_, some op2) => cyclesCB op2
  | .given whenTaken whenNotTaken _, (op, none) => (if taken then whenTaken else whenNotTaken).getD op.toNat 0
  | .given _ _ prefixed, (_, some op2) => prefixed.getD op2.toNat 0

/-- The condition an instruction tests, if it is conditional. -/
def Instr.cond? (i : Instr) : Option Cond := condOfOpcode i.opcode.1

/-- The report of R300, from the flags the instruction executes with. An unconditional instruction counts as taken. -/
def taken (i : Instr) (f : Flags) : Bool :=
  match Instr.cond? i with
  | none => true
  | some cc => condHolds cc f

end Sys2Proof.Machine
end

