-- ==== Sys2Proof/Machine/Chip.lean ====
section
/-! DEFINITION. What the chip of `Ext` does on a bus access: the programs of Machine/State.lean run on its cells (20_memory.md
R66; log 2). -/
namespace Sys2Proof.Machine

/-- `1` or `0`. -/
def truthNat (b : Bool) : Nat := if b then 1 else 0

def ChipOp.eval (o : ChipOp) (x y : Nat) : Nat :=
  match o with
  | .add => x + y
  | .sub => x - y
  | .mul => x * y
  | .div => x / y
  | .mod => x % y
  | .and => x &&& y
  | .or => x ||| y
  | .xor => x ^^^ y
  | .eq => truthNat (x == y)
  | .lt => truthNat (decide (x < y))

/-- The value of an expression on an access to `a` with the byte `v`. -/
def ChipExpr.eval (cells : List Nat) (a v : Nat) : ChipExpr → Nat
  | .const n => n
  | .address => a
  | .value => v
  | .cell i => cells.getD (i.eval cells a v) 0
  | .op o x y => o.eval (x.eval cells a v) (y.eval cells a v)
  | .ite c x y => if c.eval cells a v = 0 then y.eval cells a v else x.eval cells a v

/-- The answer and the cells after the program, or nothing where it refuses. -/
def ChipProg.run (a v : Nat) : ChipProg → List Nat → Option (Nat × List Nat)
  | .done e, cells => some (e.eval cells a v, cells)
  | .refuse, _ => none
  | .set i e next, cells => next.run a v (cells.set (i.eval cells a v) (e.eval cells a v))
  | .branch c p q, cells => if c.eval cells a v = 0 then q.run a v cells else p.run a v cells

/-- `Ext.read(a)` of the chip: the byte and the chip after it, or nothing where it raises. -/
def Chip.read (k : Chip) (a : Word) : Option (Byte × Chip) :=
  match k.onRead.run a.toNat 0 k.cells with
  | some p => some (BitVec.ofNat 8 p.1, { k with cells := p.2 })
  | none => none

/-- `Ext.write(a, v)` of the chip: the chip after it, or nothing where it raises. -/
def Chip.write (k : Chip) (a : Word) (v : Byte) : Option Chip :=
  match k.onWrite.run a.toNat v.toNat k.cells with
  | some p => some { k with cells := p.2 }
  | none => none

end Sys2Proof.Machine
end

