-- ==== Sys2Proof/Machine/Memory.lean ====
section
/-! DEFINITION. The bytes of `Ext` (20_memory.md R66): a list of (address, byte) pairs in one canonical form, its read and
its write. -/
namespace Sys2Proof.Machine

/-- What an unlisted byte of `Ext` reads as. The spec leaves the initial contents open (93_implementation_defined.md U6)
and its vectors take 0x00: DESIGN CHOICE, log 3. -/
def Memory.unlisted : Byte := 0x00#8

/-- The size of the address space (R60). -/
def Memory.size : Nat := 65536

/-- The addresses of a listed memory rise strictly from `low` on, lie in the address space, and no listed byte is the
unlisted one. -/
def Memory.wfFrom : Nat → Memory → Bool
  | _, [] => true
  | low, (k, v) :: m => decide (low ≤ k) && decide (k < Memory.size) && (v != Memory.unlisted) && Memory.wfFrom (k + 1) m

/-- The canonical form. -/
def Memory.wf (m : Memory) : Bool := Memory.wfFrom 0 m

/-- The byte at address `a`. -/
def Memory.read : Memory → Nat → Byte
  | [], _ => Memory.unlisted
  | (k, v) :: m, a => if a = k then v else Memory.read m a

/-- The memory with `v` at address `a`, in canonical form. -/
def Memory.write : Memory → Nat → Byte → Memory
  | [], a, v => if v = Memory.unlisted then [] else [(a, v)]
  | (k, w) :: m, a, v =>
    if a < k then (if v = Memory.unlisted then (k, w) :: m else (a, v) :: (k, w) :: m)
    else if a = k then (if v = Memory.unlisted then m else (k, v) :: m)
    else (k, w) :: Memory.write m a v

end Sys2Proof.Machine
end

