-- ==== Sys2Proof/Machine/Bus.lean ====
section
/-! DEFINITION. The bus of 20_memory.md: routing (R63), the contention rules (R68, R69), `MemRead` (R64), `MemWrite` (R65),
and the outcome type every operation of the machine answers with. -/
namespace Sys2Proof.Machine

/-- The outcome of an operation: a value, or what ends the step (00_scope.md R13). -/
abbrev Result (α : Type) := Host.Outcome α Fault Refusal

/-- Sequencing: `raise` and `refuse` abandon the rest of the step (R13). -/
def Result.andThen {α β : Type} (r : Result α) (f : α → Result β) : Result β :=
  match r with
  | .next x => f x
  | .fault e => .fault e
  | .refused e => .refused e

/-- The owner of an address (R63). -/
inductive Owner where
  | locked
  | div
  | tima
  | tma
  | tac
  | iflag
  | lcdc
  | stat
  | ly
  | lyc
  | ie
  | ext
  deriving DecidableEq, Repr

namespace State

/-- `LCDC[7]`, the display enable (10_state.md R44). -/
def displayOn (s : State) : Bool := s.lcd.lcdc.getLsbD 7

/-- The VRAM lockout (R68). -/
def vramLocked (s : State) (a : Word) : Bool :=
  decide (0x8000 ≤ a.toNat) && decide (a.toNat ≤ 0x9FFF) && s.displayOn && (s.lcd.mode == .pixelTransfer)

/-- The OAM lockout (R69). -/
def oamLocked (s : State) (a : Word) : Bool :=
  decide (0xFE00 ≤ a.toNat) && decide (a.toNat ≤ 0xFE9F) && s.displayOn &&
    (s.lcd.mode == .oamSearch || s.lcd.mode == .pixelTransfer)

/-- The routing of R63: contention first, then the block registers, otherwise `Ext`. -/
def owner (s : State) (a : Word) : Owner :=
  if s.vramLocked a || s.oamLocked a then .locked
  else if a = 0xFF04#16 then .div
  else if a = 0xFF05#16 then .tima
  else if a = 0xFF06#16 then .tma
  else if a = 0xFF07#16 then .tac
  else if a = 0xFF0F#16 then .iflag
  else if a = 0xFF40#16 then .lcdc
  else if a = 0xFF41#16 then .stat
  else if a = 0xFF44#16 then .ly
  else if a = 0xFF45#16 then .lyc
  else if a = 0xFFFF#16 then .ie
  else .ext

end State

/-- The STAT mode numbers (10_state.md R38). -/
def LcdMode.number : LcdMode → BitVec 2
  | .hblank => 0#2
  | .vblank => 1#2
  | .oamSearch => 2#2
  | .pixelTransfer => 3#2

/-- `LY == LYC` (10_state.md R41). -/
def Lcd.lyMatch (l : Lcd) : Bool := l.ly == l.lyc.toNat

/-- STAT bits 6..0 as a bus read gives them (R76). -/
def Lcd.statBits (l : Lcd) : BitVec 7 :=
  BitVec.ofBool l.enL ++ BitVec.ofBool l.en2 ++ BitVec.ofBool l.en1 ++ BitVec.ofBool l.en0 ++
    BitVec.ofBool l.lyMatch ++ l.mode.number

/-- Whether the window holds the address. -/
def Window.holds (w : Window) (a : Word) : Bool := decide (w.lo.toNat ≤ a.toNat) && decide (a.toNat ≤ w.hi.toNat)

/-! `Ext` (R66, R67). -/

/-- The first window that holds the address. -/
def Ext.window? (x : Ext) (a : Word) : Option Window := x.windows.find? fun w => w.holds a

/-- How `Ext` answers a read of the address; without a window it returns the stored byte. -/
def Ext.readKind (x : Ext) (a : Word) : ReadKind :=
  match x.window? a with
  | some w => w.onRead
  | none => .memory

/-- How `Ext` takes a write to the address; without a window the program image below 0x8000 is read-only. -/
def Ext.writeKind (x : Ext) (a : Word) : WriteKind :=
  match x.window? a with
  | some w => w.onWrite
  | none => if 0x8000 ≤ a.toNat then .memory else .ignore

/-- `Ext.read(a)` raises AddressingError. -/
def Ext.refusesRead (x : Ext) (a : Word) : Bool :=
  match x.readKind a with
  | .memory => false
  | .fixed _ => false
  | .chip => (x.chip.read a).isNone
  | .refuse => true

/-- What `Ext.read(a)` returns, where it does not raise. -/
def Ext.read (x : Ext) (a : Word) : Byte :=
  match x.readKind a with
  | .memory => x.mem.read a.toNat
  | .fixed v => v
  | .chip =>
    match x.chip.read a with
    | some p => p.1
    | none => 0xFF#8
  | .refuse => 0xFF#8

/-- `Ext` after `Ext.read(a)`, where it does not raise: only a chip's read has an effect. -/
def Ext.afterRead (x : Ext) (a : Word) : Ext :=
  match x.readKind a with
  | .memory => x
  | .fixed _ => x
  | .chip =>
    match x.chip.read a with
    | some p => { x with chip := p.2 }
    | none => x
  | .refuse => x

/-- `Ext.write(a, v)` raises AddressingError. -/
def Ext.refusesWrite (x : Ext) (a : Word) (v : Byte) : Bool :=
  match x.writeKind a with
  | .memory => false
  | .ignore => false
  | .chip => (x.chip.write a v).isNone
  | .refuse => true

/-- `Ext` after `Ext.write(a, v)`, where it does not raise. -/
def Ext.write (x : Ext) (a : Word) (v : Byte) : Ext :=
  match x.writeKind a with
  | .memory => { x with mem := x.mem.write a.toNat v }
  | .ignore => x
  | .chip =>
    match x.chip.write a v with
    | some k => { x with chip := k }
    | none => x
  | .refuse => x

namespace State

/-- A bus read of the address raises nothing. -/
def canRead (s : State) (a : Word) : Bool := !(s.owner a == .ext && s.ext.refusesRead a)

/-- A bus write of the byte to the address raises nothing. -/
def canWrite (s : State) (a : Word) (v : Byte) : Bool := !(s.owner a == .ext && s.ext.refusesWrite a v)

/-- The byte a bus read returns (R64), where it raises nothing. -/
def busRead (s : State) (a : Word) : Byte :=
  match s.owner a with
  | .locked => 0xFF#8
  | .div => s.timer.div
  | .tima => s.timer.tima
  | .tma => s.timer.tma
  | .tac => s.timer.tac.setWidth 8 ||| s.params.tacReadOr
  | .iflag => s.ifl.setWidth 8 ||| Config.ifReadOr
  | .lcdc => s.lcd.lcdc
  | .stat => s.params.statReadOr ||| s.lcd.statBits.setWidth 8
  | .ly => BitVec.ofNat 8 s.lcd.ly
  | .lyc => s.lcd.lyc
  | .ie => s.ie ||| ~~~s.params.ieMask
  | .ext => s.ext.read a

/-- The state after a bus write (R65), where it raises nothing. -/
def busWrite (s : State) (a : Word) (v : Byte) : State :=
  match s.owner a with
  | .locked => s
  | .div => { s with timer := { s.timer with div := 0#8, divAcc := 0 } }
  | .tima => { s with timer := { s.timer with tima := v } }
  | .tma => { s with timer := { s.timer with tma := v } }
  | .tac => { s with timer := { s.timer with tac := v.extractLsb' 0 3 } }
  | .iflag => { s with ifl := v.extractLsb' 0 5 }
  | .lcdc => { s with lcd := { s.lcd with lcdc := v } }
  | .stat =>
    { s with lcd :=
        { s.lcd with enL := v.getLsbD 6, en2 := v.getLsbD 5, en1 := v.getLsbD 4, en0 := v.getLsbD 3 } }
  | .ly => s
  | .lyc => { s with lcd := { s.lcd with lyc := v } }
  | .ie => { s with ie := v &&& s.params.ieMask }
  | .ext => { s with ext := s.ext.write a v }

/-- The state after a bus read, where it raises nothing: "no read changes any state of the block", and whether `Ext.read` has
side effects "is `Ext`'s matter" (R64). -/
def afterRead (s : State) (a : Word) : State :=
  match s.owner a with
  | .ext => { s with ext := s.ext.afterRead a }
  | .locked | .div | .tima | .tma | .tac | .iflag | .lcdc | .stat | .ly | .lyc | .ie => s

/-- `MemRead(a, 1)` (R64, R67): the byte and the state after it. -/
def memRead (s : State) (a : Word) : Result (Byte × State) :=
  if s.canRead a then .next (s.busRead a, s.afterRead a) else .fault (.addressingError a)

/-- `MemWrite(a, 1, v)` (R65, R67). -/
def memWrite (s : State) (a : Word) (v : Byte) : Result State :=
  if s.canWrite a v then .next (s.busWrite a v) else .fault (.addressingError a)

end State

end Sys2Proof.Machine
end

