-- ==== Sys2Proof/Machine/Ops.lean ====
section
/-! DEFINITION. The named operations on registers, the stack and the interrupt controller: register and pair access
(10_state.md R20 to R24), `Push16` and `Pop16` (00_scope.md R12), raising a request (60_exceptions.md R356), the trap entry
`service` (R362) and the return from it (45_control_flow.md R310). -/
namespace Sys2Proof.Machine

namespace State

/-- A register's value (R20). -/
def getR8 (s : State) (r : Reg8) : Byte :=
  match r with
  | .b => s.regs.b
  | .c => s.regs.c
  | .d => s.regs.d
  | .e => s.regs.e
  | .h => s.regs.h
  | .l => s.regs.l
  | .a => s.regs.a

/-- Writing a register (R20). -/
def setR8 (s : State) (r : Reg8) (v : Byte) : State :=
  match r with
  | .b => { s with regs := { s.regs with b := v } }
  | .c => { s with regs := { s.regs with c := v } }
  | .d => { s with regs := { s.regs with d := v } }
  | .e => { s with regs := { s.regs with e := v } }
  | .h => { s with regs := { s.regs with h := v } }
  | .l => { s with regs := { s.regs with l := v } }
  | .a => { s with regs := { s.regs with a := v } }

/-- The pair views, high register first (R23). -/
def bc (s : State) : Word := word16 s.regs.b s.regs.c
def de (s : State) : Word := word16 s.regs.d s.regs.e
def hl (s : State) : Word := word16 s.regs.h s.regs.l

/-- Writing a pair writes both halves (R23). -/
def setBC (s : State) (v : Word) : State := { s with regs := { s.regs with b := hiByte v, c := loByte v } }
def setDE (s : State) (v : Word) : State := { s with regs := { s.regs with d := hiByte v, e := loByte v } }
def setHL (s : State) (v : Word) : State := { s with regs := { s.regs with h := hiByte v, l := loByte v } }

def setFlags (s : State) (f : Flags) : State := { s with flags := f }
def setPc (s : State) (v : Word) : State := { s with pc := v }
def setSp (s : State) (v : Word) : State := { s with sp := v }

/-- `AF = {A, F}` (R23). -/
def af (s : State) : Word := word16 s.regs.a (s.flags.toByte s.params.flagBits)

/-- Writing `AF` writes `F` through R22. -/
def setAF (s : State) (v : Word) : State := (s.setR8 .a (hiByte v)).setFlags (Flags.ofByte s.params.flagBits (loByte v))

/-- `r16[i]` (30_encoding.md R105). -/
def getR16 (s : State) (r : Reg16) : Word :=
  match r with
  | .bc => s.bc
  | .de => s.de
  | .hl => s.hl
  | .sp => s.sp

def setR16 (s : State) (r : Reg16) (v : Word) : State :=
  match r with
  | .bc => s.setBC v
  | .de => s.setDE v
  | .hl => s.setHL v
  | .sp => s.setSp v

/-- `r16stk[i]` (30_encoding.md R106). -/
def getStk (s : State) (q : Stk16) : Word :=
  match q with
  | .bc => s.bc
  | .de => s.de
  | .hl => s.hl
  | .af => s.af

def setStk (s : State) (q : Stk16) (v : Word) : State :=
  match q with
  | .bc => s.setBC v
  | .de => s.setDE v
  | .hl => s.setHL v
  | .af => s.setAF v

/-- One byte of a push: pre-decrement, then the bus write (R12). -/
def pushByte (s : State) (v : Byte) : Result State := (s.setSp (s.sp - 1#16)).memWrite (s.sp - 1#16) v

/-- `Push16(v)` (R12): high byte first. -/
def push16 (s : State) (v : Word) : Result State :=
  (s.pushByte (hiByte v)).andThen fun t => t.pushByte (loByte v)

/-- `Pop16()` (R12): low byte first; the value and the state with `SP` moved past it. -/
def pop16 (s : State) : Result (Word × State) :=
  (s.memRead s.sp).andThen fun lo =>
  (lo.2.memRead (s.sp + 1#16)).andThen fun hi =>
  .next (word16 hi.1 lo.1, hi.2.setSp (s.sp + 1#16 + 1#16))

end State

/-- The bit index of a source (60_exceptions.md R351). -/
def Irq.index : Irq → Nat
  | .vblank => 0
  | .lcdStatus => 1
  | .timer => 2
  | .serial => 3
  | .joypad => 4

/-- `1 << kind` in the five stored bits of `IF`. -/
def Irq.bit (k : Irq) : BitVec 5 := 1#5 <<< k.index

/-- The vector `0x40 + 8 * bit` (R351). -/
def Irq.vector (k : Irq) : Word := BitVec.ofNat 16 (0x40 + 8 * k.index)

namespace State

/-- `interrupt(kind)` (R356). -/
def raise (s : State) (k : Irq) : State := { s with ifl := s.ifl ||| k.bit }

/-- `IE & IF & 0x1F` (R360). -/
def pending (s : State) : BitVec 5 := s.ie.extractLsb' 0 5 &&& s.ifl

/-- The least set bit of the pending mask: VBlank, LCD-status, Timer, Serial, Joypad (R360, R361). -/
def firstPending (s : State) : Option Irq :=
  if s.pending.getLsbD 0 then some .vblank
  else if s.pending.getLsbD 1 then some .lcdStatus
  else if s.pending.getLsbD 2 then some .timer
  else if s.pending.getLsbD 3 then some .serial
  else if s.pending.getLsbD 4 then some .joypad
  else none

/-- `service(i)`, the trap entry (R362): clear the one bit, clear IME, push the pc, go to the vector. Not saved: anything
else; `hq` is neither read nor cleared (R363). -/
def service (s : State) (k : Irq) : Result State :=
  (State.push16 { s with ifl := s.ifl &&& ~~~k.bit, ime := false } s.pc).andThen fun t => .next (t.setPc k.vector)

/-- The return from a handler, RETI (45_control_flow.md R310): pop the pc, set IME. -/
def returnFromInterrupt (s : State) : Result State :=
  s.pop16.andThen fun p => .next { p.2 with pc := p.1, ime := true }

/-- `interrupt_check()` (R360), with the machine-cycles it adds. -/
def interruptCheck (s : State) : Result (Nat × State) :=
  match s.firstPending with
  | none => .next (0, s)
  | some k =>
    let awake := { s with halted := false }
    if s.ime then (awake.service k).andThen fun t => .next (Config.irqServiceMCycles, t)
    else .next (0, awake)

end State

end Sys2Proof.Machine
end

