-- ==== Sys2Proof/Machine/Operands.lean ====
section
/-! DEFINITION. The operand forms of 30_encoding.md R111: reading and writing `r8[i]` with `(HL)` at index 6 (R104,
44_rotate_shift_bit.md R260), the addresses of the other memory operands, and the operation shapes that several
instructions share. -/
namespace Sys2Proof.Machine

namespace State

/-- Reading `r8[i]` (R104): a register, or `MemRead(HL, 1)`; the byte and the state after it. -/
def readOp8 (s : State) (o : Operand8) : Result (Byte × State) :=
  match o with
  | .b => .next (s.regs.b, s)
  | .c => .next (s.regs.c, s)
  | .d => .next (s.regs.d, s)
  | .e => .next (s.regs.e, s)
  | .h => .next (s.regs.h, s)
  | .l => .next (s.regs.l, s)
  | .mHL => s.memRead s.hl
  | .a => .next (s.regs.a, s)

/-- Writing `r8[i]` (R104): a register, or `MemWrite(HL, 1, v)`. -/
def writeOp8 (s : State) (o : Operand8) (v : Byte) : Result State :=
  match o with
  | .b => .next (s.setR8 .b v)
  | .c => .next (s.setR8 .c v)
  | .d => .next (s.setR8 .d v)
  | .e => .next (s.setR8 .e v)
  | .h => .next (s.setR8 .h v)
  | .l => .next (s.setR8 .l v)
  | .mHL => s.memWrite s.hl v
  | .a => .next (s.setR8 .a v)

end State

/-- The address `0xFF00 + zext_16(n)` of the I/O-page forms (R111). -/
def ioAddress (n : Byte) : Word := 0xFF00#16 + zext16 n

namespace State

/-- `A <- MemRead(a, 1)`. -/
def loadA (s : State) (a : Word) : Result State := (s.memRead a).andThen fun p => .next (p.2.setR8 .a p.1)

/-- `MemWrite(a, 1, A)`. -/
def storeA (s : State) (a : Word) : Result State := s.memWrite a s.regs.a

/-- Reading an operand, computing from it and the flags, writing the result back and then the flags. -/
def modify (s : State) (o : Operand8) (f : Byte → Flags → AluOut) : Result State :=
  (s.readOp8 o).andThen fun p =>
  (p.2.writeOp8 o (f p.1 s.flags).res).andThen fun t => .next (t.setFlags (f p.1 s.flags).flags)

/-- An operation on the accumulator and the flags alone. -/
def modifyA (s : State) (f : Byte → Flags → AluOut) : Result State :=
  .next ((s.setR8 .a (f s.regs.a s.flags).res).setFlags (f s.regs.a s.flags).flags)

end State

end Sys2Proof.Machine
end

