-- ==== Sys2Proof/Machine/Alu16.lean ====
section
/-! DEFINITION. 16-bit arithmetic (43_alu16.md). No instruction here accesses data memory. -/
namespace Sys2Proof.Machine

/-- `ADD HL,rr` (R241). -/
def addToHL (v : Word) (s : State) : State :=
  (s.setHL (s.hl + v)).setFlags (addHlFlags s.hl v s.params.addHlClearsN s.flags)

/-! One definition per instruction. -/

/-- `INC BC` (R242). -/
def exec_inc_BC (s : State) : Result State := .next (s.setR16 .bc (s.getR16 .bc + 1#16))

/-- `ADD HL,BC` (R241). -/
def exec_add_HL_BC (s : State) : Result State := .next (addToHL (s.getR16 .bc) s)

/-- `DEC BC` (R243). -/
def exec_dec_BC (s : State) : Result State := .next (s.setR16 .bc (s.getR16 .bc - 1#16))

/-- `INC DE` (R242). -/
def exec_inc_DE (s : State) : Result State := .next (s.setR16 .de (s.getR16 .de + 1#16))

/-- `ADD HL,DE` (R241). -/
def exec_add_HL_DE (s : State) : Result State := .next (addToHL (s.getR16 .de) s)

/-- `DEC DE` (R243). -/
def exec_dec_DE (s : State) : Result State := .next (s.setR16 .de (s.getR16 .de - 1#16))

/-- `INC HL` (R242). -/
def exec_inc_HL (s : State) : Result State := .next (s.setR16 .hl (s.getR16 .hl + 1#16))

/-- `ADD HL,HL` (R241). -/
def exec_add_HL_HL (s : State) : Result State := .next (addToHL (s.getR16 .hl) s)

/-- `DEC HL` (R243). -/
def exec_dec_HL (s : State) : Result State := .next (s.setR16 .hl (s.getR16 .hl - 1#16))

/-- `INC SP` (R242). -/
def exec_inc_SP (s : State) : Result State := .next (s.setR16 .sp (s.getR16 .sp + 1#16))

/-- `ADD HL,SP` (R241). -/
def exec_add_HL_SP (s : State) : Result State := .next (addToHL (s.getR16 .sp) s)

/-- `DEC SP` (R243). -/
def exec_dec_SP (s : State) : Result State := .next (s.setR16 .sp (s.getR16 .sp - 1#16))

/-- `ADD SP,e8` (R244). -/
def exec_add_SP_e8 (e : Byte) (s : State) : Result State := .next ((s.setSp (spAdd s.sp e)).setFlags (spAddFlags s.sp e))

/-- `LD HL,SP+e8` (R245). -/
def exec_ld_HL_SPe8 (e : Byte) (s : State) : Result State := .next ((s.setHL (spAdd s.sp e)).setFlags (spAddFlags s.sp e))

end Sys2Proof.Machine
end

