-- ==== Sys2Proof/Machine/Alu8.lean ====
section
/-! DEFINITION. 8-bit arithmetic and logic (42_alu8.md). -/
namespace Sys2Proof.Machine

/-- The accumulator and the flags after `alu[y]` with a source byte (R204 to R211). -/
def accumulate (op : AluOp) (v : Byte) (s : State) : State :=
  (s.setR8 .a (aluOut op s.regs.a v s.flags.c).res).setFlags (aluOut op s.regs.a v s.flags.c).flags

/-- `op r` and `op (HL)` (R200). -/
def alu (op : AluOp) (src : Operand8) (s : State) : Result State :=
  (s.readOp8 src).andThen fun p => .next (accumulate op p.1 p.2)

/-! One definition per instruction. -/

/-- `INC B` (R212). -/
def exec_inc_B (s : State) : Result State := s.modify .b incOut

/-- `DEC B` (R214). -/
def exec_dec_B (s : State) : Result State := s.modify .b decOut

/-- `INC C` (R212). -/
def exec_inc_C (s : State) : Result State := s.modify .c incOut

/-- `DEC C` (R214). -/
def exec_dec_C (s : State) : Result State := s.modify .c decOut

/-- `INC D` (R212). -/
def exec_inc_D (s : State) : Result State := s.modify .d incOut

/-- `DEC D` (R214). -/
def exec_dec_D (s : State) : Result State := s.modify .d decOut

/-- `INC E` (R212). -/
def exec_inc_E (s : State) : Result State := s.modify .e incOut

/-- `DEC E` (R214). -/
def exec_dec_E (s : State) : Result State := s.modify .e decOut

/-- `INC H` (R212). -/
def exec_inc_H (s : State) : Result State := s.modify .h incOut

/-- `DEC H` (R214). -/
def exec_dec_H (s : State) : Result State := s.modify .h decOut

/-- `DAA` (R216). -/
def exec_daa (s : State) : Result State := s.modifyA daaOut

/-- `INC L` (R212). -/
def exec_inc_L (s : State) : Result State := s.modify .l incOut

/-- `DEC L` (R214). -/
def exec_dec_L (s : State) : Result State := s.modify .l decOut

/-- `CPL` (R217). -/
def exec_cpl (s : State) : Result State := s.modifyA fun a f => { res := ~~~a, flags := { f with n := true, h := true } }

/-- `INC (HL)` (R213). -/
def exec_inc_mHL (s : State) : Result State := s.modify .mHL incOut

/-- `DEC (HL)` (R215). -/
def exec_dec_mHL (s : State) : Result State := s.modify .mHL decOut

/-- `SCF` (R218). -/
def exec_scf (s : State) : Result State := .next (s.setFlags { s.flags with n := false, h := false, c := true })

/-- `INC A` (R212). -/
def exec_inc_A (s : State) : Result State := s.modify .a incOut

/-- `DEC A` (R214). -/
def exec_dec_A (s : State) : Result State := s.modify .a decOut

/-- `CCF` (R219). -/
def exec_ccf (s : State) : Result State := .next (s.setFlags { s.flags with n := false, h := false, c := !s.flags.c })

/-- `ADD A,B` (R204). -/
def exec_add_A_B (s : State) : Result State := alu .add .b s

/-- `ADD A,C` (R204). -/
def exec_add_A_C (s : State) : Result State := alu .add .c s

/-- `ADD A,D` (R204). -/
def exec_add_A_D (s : State) : Result State := alu .add .d s

/-- `ADD A,E` (R204). -/
def exec_add_A_E (s : State) : Result State := alu .add .e s

/-- `ADD A,H` (R204). -/
def exec_add_A_H (s : State) : Result State := alu .add .h s

/-- `ADD A,L` (R204). -/
def exec_add_A_L (s : State) : Result State := alu .add .l s

/-- `ADD A,(HL)` (R204). -/
def exec_add_A_mHL (s : State) : Result State := alu .add .mHL s

/-- `ADD A,A` (R204). -/
def exec_add_A_A (s : State) : Result State := alu .add .a s

/-- `ADC A,B` (R205). -/
def exec_adc_A_B (s : State) : Result State := alu .adc .b s

/-- `ADC A,C` (R205). -/
def exec_adc_A_C (s : State) : Result State := alu .adc .c s

/-- `ADC A,D` (R205). -/
def exec_adc_A_D (s : State) : Result State := alu .adc .d s

/-- `ADC A,E` (R205). -/
def exec_adc_A_E (s : State) : Result State := alu .adc .e s

/-- `ADC A,H` (R205). -/
def exec_adc_A_H (s : State) : Result State := alu .adc .h s

/-- `ADC A,L` (R205). -/
def exec_adc_A_L (s : State) : Result State := alu .adc .l s

/-- `ADC A,(HL)` (R205). -/
def exec_adc_A_mHL (s : State) : Result State := alu .adc .mHL s

/-- `ADC A,A` (R205). -/
def exec_adc_A_A (s : State) : Result State := alu .adc .a s

/-- `SUB B` (R206). -/
def exec_sub_B (s : State) : Result State := alu .sub .b s

/-- `SUB C` (R206). -/
def exec_sub_C (s : State) : Result State := alu .sub .c s

/-- `SUB D` (R206). -/
def exec_sub_D (s : State) : Result State := alu .sub .d s

/-- `SUB E` (R206). -/
def exec_sub_E (s : State) : Result State := alu .sub .e s

/-- `SUB H` (R206). -/
def exec_sub_H (s : State) : Result State := alu .sub .h s

/-- `SUB L` (R206). -/
def exec_sub_L (s : State) : Result State := alu .sub .l s

/-- `SUB (HL)` (R206). -/
def exec_sub_mHL (s : State) : Result State := alu .sub .mHL s

/-- `SUB A` (R206). -/
def exec_sub_A (s : State) : Result State := alu .sub .a s

/-- `SBC A,B` (R207). -/
def exec_sbc_A_B (s : State) : Result State := alu .sbc .b s

/-- `SBC A,C` (R207). -/
def exec_sbc_A_C (s : State) : Result State := alu .sbc .c s

/-- `SBC A,D` (R207). -/
def exec_sbc_A_D (s : State) : Result State := alu .sbc .d s

/-- `SBC A,E` (R207). -/
def exec_sbc_A_E (s : State) : Result State := alu .sbc .e s

/-- `SBC A,H` (R207). -/
def exec_sbc_A_H (s : State) : Result State := alu .sbc .h s

/-- `SBC A,L` (R207). -/
def exec_sbc_A_L (s : State) : Result State := alu .sbc .l s

/-- `SBC A,(HL)` (R207). -/
def exec_sbc_A_mHL (s : State) : Result State := alu .sbc .mHL s

/-- `SBC A,A` (R207). -/
def exec_sbc_A_A (s : State) : Result State := alu .sbc .a s

/-- `AND B` (R208). -/
def exec_and_B (s : State) : Result State := alu .and .b s

/-- `AND C` (R208). -/
def exec_and_C (s : State) : Result State := alu .and .c s

/-- `AND D` (R208). -/
def exec_and_D (s : State) : Result State := alu .and .d s

/-- `AND E` (R208). -/
def exec_and_E (s : State) : Result State := alu .and .e s

/-- `AND H` (R208). -/
def exec_and_H (s : State) : Result State := alu .and .h s

/-- `AND L` (R208). -/
def exec_and_L (s : State) : Result State := alu .and .l s

/-- `AND (HL)` (R208). -/
def exec_and_mHL (s : State) : Result State := alu .and .mHL s

/-- `AND A` (R208). -/
def exec_and_A (s : State) : Result State := alu .and .a s

/-- `XOR B` (R209). -/
def exec_xor_B (s : State) : Result State := alu .xor .b s

/-- `XOR C` (R209). -/
def exec_xor_C (s : State) : Result State := alu .xor .c s

/-- `XOR D` (R209). -/
def exec_xor_D (s : State) : Result State := alu .xor .d s

/-- `XOR E` (R209). -/
def exec_xor_E (s : State) : Result State := alu .xor .e s

/-- `XOR H` (R209). -/
def exec_xor_H (s : State) : Result State := alu .xor .h s

/-- `XOR L` (R209). -/
def exec_xor_L (s : State) : Result State := alu .xor .l s

/-- `XOR (HL)` (R209). -/
def exec_xor_mHL (s : State) : Result State := alu .xor .mHL s

/-- `XOR A` (R209). -/
def exec_xor_A (s : State) : Result State := alu .xor .a s

/-- `OR B` (R210). -/
def exec_or_B (s : State) : Result State := alu .or .b s

/-- `OR C` (R210). -/
def exec_or_C (s : State) : Result State := alu .or .c s

/-- `OR D` (R210). -/
def exec_or_D (s : State) : Result State := alu .or .d s

/-- `OR E` (R210). -/
def exec_or_E (s : State) : Result State := alu .or .e s

/-- `OR H` (R210). -/
def exec_or_H (s : State) : Result State := alu .or .h s

/-- `OR L` (R210). -/
def exec_or_L (s : State) : Result State := alu .or .l s

/-- `OR (HL)` (R210). -/
def exec_or_mHL (s : State) : Result State := alu .or .mHL s

/-- `OR A` (R210). -/
def exec_or_A (s : State) : Result State := alu .or .a s

/-- `CP B` (R211). -/
def exec_cp_B (s : State) : Result State := alu .cp .b s

/-- `CP C` (R211). -/
def exec_cp_C (s : State) : Result State := alu .cp .c s

/-- `CP D` (R211). -/
def exec_cp_D (s : State) : Result State := alu .cp .d s

/-- `CP E` (R211). -/
def exec_cp_E (s : State) : Result State := alu .cp .e s

/-- `CP H` (R211). -/
def exec_cp_H (s : State) : Result State := alu .cp .h s

/-- `CP L` (R211). -/
def exec_cp_L (s : State) : Result State := alu .cp .l s

/-- `CP (HL)` (R211). -/
def exec_cp_mHL (s : State) : Result State := alu .cp .mHL s

/-- `CP A` (R211). -/
def exec_cp_A (s : State) : Result State := alu .cp .a s

/-- `ADD A,d8` (R204). -/
def exec_add_A_d8 (v : Byte) (s : State) : Result State := .next (accumulate .add v s)

/-- `ADC A,d8` (R205). -/
def exec_adc_A_d8 (v : Byte) (s : State) : Result State := .next (accumulate .adc v s)

/-- `SUB d8` (R206). -/
def exec_sub_d8 (v : Byte) (s : State) : Result State := .next (accumulate .sub v s)

/-- `SBC A,d8` (R207). -/
def exec_sbc_A_d8 (v : Byte) (s : State) : Result State := .next (accumulate .sbc v s)

/-- `AND d8` (R208). -/
def exec_and_d8 (v : Byte) (s : State) : Result State := .next (accumulate .and v s)

/-- `XOR d8` (R209). -/
def exec_xor_d8 (v : Byte) (s : State) : Result State := .next (accumulate .xor v s)

/-- `OR d8` (R210). -/
def exec_or_d8 (v : Byte) (s : State) : Result State := .next (accumulate .or v s)

/-- `CP d8` (R211). -/
def exec_cp_d8 (v : Byte) (s : State) : Result State := .next (accumulate .cp v s)

end Sys2Proof.Machine
end

