-- ==== Sys2Proof/Machine/Control.lean ====
section
/-! DEFINITION. Control transfer (45_control_flow.md). `PC` is past the whole instruction when its meaning runs, whether or
not a condition holds (R300); the report taken or not taken is `taken` of Machine/Cycles.lean. -/
namespace Sys2Proof.Machine

/-- The target of a relative jump, `PC + signed8(e)` modulo 65536 (R304). -/
def relative (s : State) (e : Byte) : Word := s.pc + sext16 e

/-- A conditional jump (R302, R305). -/
def jumpIf (cc : Cond) (a : Word) (s : State) : State := if condHolds cc s.flags then s.setPc a else s

/-- CALL and RST (R306, R311): push the pc, go to the target. -/
def call (a : Word) (s : State) : Result State := (s.push16 s.pc).andThen fun t => .next (t.setPc a)

/-- A conditional call (R307). -/
def callIf (cc : Cond) (a : Word) (s : State) : Result State := if condHolds cc s.flags then call a s else .next s

/-- RET (R308): pop the pc. -/
def ret (s : State) : Result State := s.pop16.andThen fun p => .next (p.2.setPc p.1)

/-- A conditional return (R309). -/
def retIf (cc : Cond) (s : State) : Result State := if condHolds cc s.flags then ret s else .next s

/-! One definition per instruction. -/

/-- `JR e8` (R304). -/
def exec_jr_e8 (e : Byte) (s : State) : Result State := .next (s.setPc (relative s e))

/-- `JR NZ,e8` (R305). -/
def exec_jr_NZ_e8 (e : Byte) (s : State) : Result State := .next (jumpIf .nz (relative s e) s)

/-- `JR Z,e8` (R305). -/
def exec_jr_Z_e8 (e : Byte) (s : State) : Result State := .next (jumpIf .z (relative s e) s)

/-- `JR NC,e8` (R305). -/
def exec_jr_NC_e8 (e : Byte) (s : State) : Result State := .next (jumpIf .nc (relative s e) s)

/-- `JR C,e8` (R305). -/
def exec_jr_C_e8 (e : Byte) (s : State) : Result State := .next (jumpIf .c (relative s e) s)

/-- `RET NZ` (R309). -/
def exec_ret_NZ (s : State) : Result State := retIf .nz s

/-- `JP NZ,a16` (R302). -/
def exec_jp_NZ_a16 (a : Word) (s : State) : Result State := .next (jumpIf .nz a s)

/-- `JP a16` (R301). -/
def exec_jp_a16 (a : Word) (s : State) : Result State := .next (s.setPc a)

/-- `CALL NZ,a16` (R307). -/
def exec_call_NZ_a16 (a : Word) (s : State) : Result State := callIf .nz a s

/-- `RST 0x00` (R311). -/
def exec_rst_00 (s : State) : Result State := call 0x0000#16 s

/-- `RET Z` (R309). -/
def exec_ret_Z (s : State) : Result State := retIf .z s

/-- `RET` (R308). -/
def exec_ret (s : State) : Result State := ret s

/-- `JP Z,a16` (R302). -/
def exec_jp_Z_a16 (a : Word) (s : State) : Result State := .next (jumpIf .z a s)

/-- `CALL Z,a16` (R307). -/
def exec_call_Z_a16 (a : Word) (s : State) : Result State := callIf .z a s

/-- `CALL a16` (R306). -/
def exec_call_a16 (a : Word) (s : State) : Result State := call a s

/-- `RST 0x08` (R311). -/
def exec_rst_08 (s : State) : Result State := call 0x0008#16 s

/-- `RET NC` (R309). -/
def exec_ret_NC (s : State) : Result State := retIf .nc s

/-- `JP NC,a16` (R302). -/
def exec_jp_NC_a16 (a : Word) (s : State) : Result State := .next (jumpIf .nc a s)

/-- `CALL NC,a16` (R307). -/
def exec_call_NC_a16 (a : Word) (s : State) : Result State := callIf .nc a s

/-- `RST 0x10` (R311). -/
def exec_rst_10 (s : State) : Result State := call 0x0010#16 s

/-- `RET C` (R309). -/
def exec_ret_C (s : State) : Result State := retIf .c s

/-- `RETI` (R310). -/
def exec_reti (s : State) : Result State := s.returnFromInterrupt

/-- `JP C,a16` (R302). -/
def exec_jp_C_a16 (a : Word) (s : State) : Result State := .next (jumpIf .c a s)

/-- `CALL C,a16` (R307). -/
def exec_call_C_a16 (a : Word) (s : State) : Result State := callIf .c a s

/-- `RST 0x18` (R311). -/
def exec_rst_18 (s : State) : Result State := call 0x0018#16 s

/-- `RST 0x20` (R311). -/
def exec_rst_20 (s : State) : Result State := call 0x0020#16 s

/-- `JP HL` (R303). -/
def exec_jp_HL (s : State) : Result State := .next (s.setPc s.hl)

/-- `RST 0x28` (R311). -/
def exec_rst_28 (s : State) : Result State := call 0x0028#16 s

/-- `RST 0x30` (R311). -/
def exec_rst_30 (s : State) : Result State := call 0x0030#16 s

/-- `RST 0x38` (R311). -/
def exec_rst_38 (s : State) : Result State := call 0x0038#16 s

end Sys2Proof.Machine
end

