-- ==== Sys2Proof/Machine/CpuControl.lean ====
section
/-! DEFINITION. NOP, HALT, STOP, DI, EI and the eleven undefined byte values (46_cpu_control.md). -/
namespace Sys2Proof.Machine

/-- HALT (R331): with IME clear and an enabled request pending, the byte at the pc is queued (the halt bug). -/
def halt (s : State) : Result State :=
  if !s.ime && s.pending != 0#5 then (s.memRead s.pc).andThen fun p => .next { p.2 with halted := true, hq := some p.1 }
  else .next { s with halted := true }

/-- STOP (R332) under each value of STOP_BEHAVIOUR; with `nop2` the operand byte has been fetched and is dropped. -/
def stop (s : State) : Result State :=
  match s.params.stopBehaviour with
  | .refuse => .refused .stop
  | .nop2 => .next s
  | .fault => .fault (.undefinedOpcode 0x10#8)

/-- EI (R334): at once with EI_DELAY = 0, through `ime_pending` with EI_DELAY = 1. -/
def enableInterrupts (s : State) : State :=
  if s.params.eiDelay then { s with imePending := true } else { s with ime := true }

/-! One definition per instruction. -/

/-- `NOP` (R330). -/
def exec_nop (s : State) : Result State := .next s

/-- `STOP` (R332). -/
def exec_stop (_v : Byte) (s : State) : Result State := stop s

/-- `HALT` (R331). -/
def exec_halt (s : State) : Result State := halt s

/-- `UNDEFINED_D3` (R336). -/
def exec_undefined_D3 (_s : State) : Result State := .fault (.undefinedOpcode 0xD3#8)

/-- `UNDEFINED_DB` (R336). -/
def exec_undefined_DB (_s : State) : Result State := .fault (.undefinedOpcode 0xDB#8)

/-- `UNDEFINED_DD` (R336). -/
def exec_undefined_DD (_s : State) : Result State := .fault (.undefinedOpcode 0xDD#8)

/-- `UNDEFINED_E3` (R336). -/
def exec_undefined_E3 (_s : State) : Result State := .fault (.undefinedOpcode 0xE3#8)

/-- `UNDEFINED_E4` (R336). -/
def exec_undefined_E4 (_s : State) : Result State := .fault (.undefinedOpcode 0xE4#8)

/-- `UNDEFINED_EB` (R336). -/
def exec_undefined_EB (_s : State) : Result State := .fault (.undefinedOpcode 0xEB#8)

/-- `UNDEFINED_EC` (R336). -/
def exec_undefined_EC (_s : State) : Result State := .fault (.undefinedOpcode 0xEC#8)

/-- `UNDEFINED_ED` (R336). -/
def exec_undefined_ED (_s : State) : Result State := .fault (.undefinedOpcode 0xED#8)

/-- `DI` (R333). -/
def exec_di (s : State) : Result State := .next { s with ime := false, imePending := false }

/-- `UNDEFINED_F4` (R336). -/
def exec_undefined_F4 (_s : State) : Result State := .fault (.undefinedOpcode 0xF4#8)

/-- `EI` (R334). -/
def exec_ei (s : State) : Result State := .next (enableInterrupts s)

/-- `UNDEFINED_FC` (R336). -/
def exec_undefined_FC (_s : State) : Result State := .fault (.undefinedOpcode 0xFC#8)

/-- `UNDEFINED_FD` (R336). -/
def exec_undefined_FD (_s : State) : Result State := .fault (.undefinedOpcode 0xFD#8)

end Sys2Proof.Machine
end

