-- ==== Sys2Proof/Machine/Load16.lean ====
section
/-! DEFINITION. 16-bit loads and the stack instructions (41_load16_stack.md). Only POP AF writes flags (R180). -/
namespace Sys2Proof.Machine

/-- `LD (a16),SP` (R182): the byte at the lower address first, which is the low one with the default IMM_ORDER. -/
def storeSP (a : Word) (s : State) : Result State :=
  let bytes := s.params.immOrder.pair (loByte s.sp) (hiByte s.sp)
  (s.memWrite a bytes.1).andThen fun t => t.memWrite (a + 1#16) bytes.2

/-- `POP qq` (R185, R186). -/
def pop (q : Stk16) (s : State) : Result State := s.pop16.andThen fun p => .next (p.2.setStk q p.1)

/-! One definition per instruction. -/

/-- `LD BC,d16` (R181). -/
def exec_ld_BC_d16 (w : Word) (s : State) : Result State := .next (s.setR16 .bc w)

/-- `LD (a16),SP` (R182). -/
def exec_ld_ma16_SP (a : Word) (s : State) : Result State := storeSP a s

/-- `LD DE,d16` (R181). -/
def exec_ld_DE_d16 (w : Word) (s : State) : Result State := .next (s.setR16 .de w)

/-- `LD HL,d16` (R181). -/
def exec_ld_HL_d16 (w : Word) (s : State) : Result State := .next (s.setR16 .hl w)

/-- `LD SP,d16` (R181). -/
def exec_ld_SP_d16 (w : Word) (s : State) : Result State := .next (s.setR16 .sp w)

/-- `POP BC` (R185). -/
def exec_pop_BC (s : State) : Result State := pop .bc s

/-- `PUSH BC` (R184). -/
def exec_push_BC (s : State) : Result State := s.push16 (s.getStk .bc)

/-- `POP DE` (R185). -/
def exec_pop_DE (s : State) : Result State := pop .de s

/-- `PUSH DE` (R184). -/
def exec_push_DE (s : State) : Result State := s.push16 (s.getStk .de)

/-- `POP HL` (R185). -/
def exec_pop_HL (s : State) : Result State := pop .hl s

/-- `PUSH HL` (R184). -/
def exec_push_HL (s : State) : Result State := s.push16 (s.getStk .hl)

/-- `POP AF` (R186). -/
def exec_pop_AF (s : State) : Result State := pop .af s

/-- `PUSH AF` (R184). -/
def exec_push_AF (s : State) : Result State := s.push16 (s.getStk .af)

/-- `LD SP,HL` (R183). -/
def exec_ld_SP_HL (s : State) : Result State := .next (s.setSp s.hl)

end Sys2Proof.Machine
end

