-- ==== Sys2Proof/Machine/Load8.lean ====
section
/-! DEFINITION. 8-bit loads and stores (40_load8.md). An instruction runs after its bytes are fetched, so `PC` is past them
(log 7). No rule here writes a flag (R140). -/
namespace Sys2Proof.Machine

/-- `LD r,r'`, `LD r,(HL)`, `LD (HL),r` (R141, R143, R144): read the source, write the destination. -/
def ld8 (dst src : Operand8) (s : State) : Result State := (s.readOp8 src).andThen fun p => p.2.writeOp8 dst p.1

/-- `LD A,(HL-)`, `LD A,(HL+)` (R156, R158): `HL` moves by `d` after the read. -/
def loadStep (d : Word) (s : State) : Result State :=
  (s.memRead s.hl).andThen fun p => .next ((p.2.setR8 .a p.1).setHL (s.hl + d))

/-- `LD (HL-),A`, `LD (HL+),A` (R157, R159): `HL` moves by `d` after the write. -/
def storeStep (d : Word) (s : State) : Result State :=
  (s.storeA s.hl).andThen fun t => .next (t.setHL (t.hl + d))

/-! One definition per instruction. -/

/-- `LD (BC),A` (R148). -/
def exec_ld_mBC_A (s : State) : Result State := s.storeA s.bc

/-- `LD B,d8` (R142). -/
def exec_ld_B_d8 (v : Byte) (s : State) : Result State := s.writeOp8 .b v

/-- `LD A,(BC)` (R146). -/
def exec_ld_A_mBC (s : State) : Result State := s.loadA s.bc

/-- `LD C,d8` (R142). -/
def exec_ld_C_d8 (v : Byte) (s : State) : Result State := s.writeOp8 .c v

/-- `LD (DE),A` (R149). -/
def exec_ld_mDE_A (s : State) : Result State := s.storeA s.de

/-- `LD D,d8` (R142). -/
def exec_ld_D_d8 (v : Byte) (s : State) : Result State := s.writeOp8 .d v

/-- `LD A,(DE)` (R147). -/
def exec_ld_A_mDE (s : State) : Result State := s.loadA s.de

/-- `LD E,d8` (R142). -/
def exec_ld_E_d8 (v : Byte) (s : State) : Result State := s.writeOp8 .e v

/-- `LD (HL+),A` (R159). -/
def exec_ld_mHLi_A (s : State) : Result State := storeStep 1#16 s

/-- `LD H,d8` (R142). -/
def exec_ld_H_d8 (v : Byte) (s : State) : Result State := s.writeOp8 .h v

/-- `LD A,(HL+)` (R158). -/
def exec_ld_A_mHLi (s : State) : Result State := loadStep 1#16 s

/-- `LD L,d8` (R142). -/
def exec_ld_L_d8 (v : Byte) (s : State) : Result State := s.writeOp8 .l v

/-- `LD (HL-),A` (R157). -/
def exec_ld_mHLd_A (s : State) : Result State := storeStep (-1#16) s

/-- `LD (HL),d8` (R145). -/
def exec_ld_mHL_d8 (v : Byte) (s : State) : Result State := s.writeOp8 .mHL v

/-- `LD A,(HL-)` (R156). -/
def exec_ld_A_mHLd (s : State) : Result State := loadStep (-1#16) s

/-- `LD A,d8` (R142). -/
def exec_ld_A_d8 (v : Byte) (s : State) : Result State := s.writeOp8 .a v

/-- `LD B,B` (R141). -/
def exec_ld_B_B (s : State) : Result State := ld8 .b .b s

/-- `LD B,C` (R141). -/
def exec_ld_B_C (s : State) : Result State := ld8 .b .c s

/-- `LD B,D` (R141). -/
def exec_ld_B_D (s : State) : Result State := ld8 .b .d s

/-- `LD B,E` (R141). -/
def exec_ld_B_E (s : State) : Result State := ld8 .b .e s

/-- `LD B,H` (R141). -/
def exec_ld_B_H (s : State) : Result State := ld8 .b .h s

/-- `LD B,L` (R141). -/
def exec_ld_B_L (s : State) : Result State := ld8 .b .l s

/-- `LD B,(HL)` (R143). -/
def exec_ld_B_mHL (s : State) : Result State := ld8 .b .mHL s

/-- `LD B,A` (R141). -/
def exec_ld_B_A (s : State) : Result State := ld8 .b .a s

/-- `LD C,B` (R141). -/
def exec_ld_C_B (s : State) : Result State := ld8 .c .b s

/-- `LD C,C` (R141). -/
def exec_ld_C_C (s : State) : Result State := ld8 .c .c s

/-- `LD C,D` (R141). -/
def exec_ld_C_D (s : State) : Result State := ld8 .c .d s

/-- `LD C,E` (R141). -/
def exec_ld_C_E (s : State) : Result State := ld8 .c .e s

/-- `LD C,H` (R141). -/
def exec_ld_C_H (s : State) : Result State := ld8 .c .h s

/-- `LD C,L` (R141). -/
def exec_ld_C_L (s : State) : Result State := ld8 .c .l s

/-- `LD C,(HL)` (R143). -/
def exec_ld_C_mHL (s : State) : Result State := ld8 .c .mHL s

/-- `LD C,A` (R141). -/
def exec_ld_C_A (s : State) : Result State := ld8 .c .a s

/-- `LD D,B` (R141). -/
def exec_ld_D_B (s : State) : Result State := ld8 .d .b s

/-- `LD D,C` (R141). -/
def exec_ld_D_C (s : State) : Result State := ld8 .d .c s

/-- `LD D,D` (R141). -/
def exec_ld_D_D (s : State) : Result State := ld8 .d .d s

/-- `LD D,E` (R141). -/
def exec_ld_D_E (s : State) : Result State := ld8 .d .e s

/-- `LD D,H` (R141). -/
def exec_ld_D_H (s : State) : Result State := ld8 .d .h s

/-- `LD D,L` (R141). -/
def exec_ld_D_L (s : State) : Result State := ld8 .d .l s

/-- `LD D,(HL)` (R143). -/
def exec_ld_D_mHL (s : State) : Result State := ld8 .d .mHL s

/-- `LD D,A` (R141). -/
def exec_ld_D_A (s : State) : Result State := ld8 .d .a s

/-- `LD E,B` (R141). -/
def exec_ld_E_B (s : State) : Result State := ld8 .e .b s

/-- `LD E,C` (R141). -/
def exec_ld_E_C (s : State) : Result State := ld8 .e .c s

/-- `LD E,D` (R141). -/
def exec_ld_E_D (s : State) : Result State := ld8 .e .d s

/-- `LD E,E` (R141). -/
def exec_ld_E_E (s : State) : Result State := ld8 .e .e s

/-- `LD E,H` (R141). -/
def exec_ld_E_H (s : State) : Result State := ld8 .e .h s

/-- `LD E,L` (R141). -/
def exec_ld_E_L (s : State) : Result State := ld8 .e .l s

/-- `LD E,(HL)` (R143). -/
def exec_ld_E_mHL (s : State) : Result State := ld8 .e .mHL s

/-- `LD E,A` (R141). -/
def exec_ld_E_A (s : State) : Result State := ld8 .e .a s

/-- `LD H,B` (R141). -/
def exec_ld_H_B (s : State) : Result State := ld8 .h .b s

/-- `LD H,C` (R141). -/
def exec_ld_H_C (s : State) : Result State := ld8 .h .c s

/-- `LD H,D` (R141). -/
def exec_ld_H_D (s : State) : Result State := ld8 .h .d s

/-- `LD H,E` (R141). -/
def exec_ld_H_E (s : State) : Result State := ld8 .h .e s

/-- `LD H,H` (R141). -/
def exec_ld_H_H (s : State) : Result State := ld8 .h .h s

/-- `LD H,L` (R141). -/
def exec_ld_H_L (s : State) : Result State := ld8 .h .l s

/-- `LD H,(HL)` (R143). -/
def exec_ld_H_mHL (s : State) : Result State := ld8 .h .mHL s

/-- `LD H,A` (R141). -/
def exec_ld_H_A (s : State) : Result State := ld8 .h .a s

/-- `LD L,B` (R141). -/
def exec_ld_L_B (s : State) : Result State := ld8 .l .b s

/-- `LD L,C` (R141). -/
def exec_ld_L_C (s : State) : Result State := ld8 .l .c s

/-- `LD L,D` (R141). -/
def exec_ld_L_D (s : State) : Result State := ld8 .l .d s

/-- `LD L,E` (R141). -/
def exec_ld_L_E (s : State) : Result State := ld8 .l .e s

/-- `LD L,H` (R141). -/
def exec_ld_L_H (s : State) : Result State := ld8 .l .h s

/-- `LD L,L` (R141). -/
def exec_ld_L_L (s : State) : Result State := ld8 .l .l s

/-- `LD L,(HL)` (R143). -/
def exec_ld_L_mHL (s : State) : Result State := ld8 .l .mHL s

/-- `LD L,A` (R141). -/
def exec_ld_L_A (s : State) : Result State := ld8 .l .a s

/-- `LD (HL),B` (R144). -/
def exec_ld_mHL_B (s : State) : Result State := ld8 .mHL .b s

/-- `LD (HL),C` (R144). -/
def exec_ld_mHL_C (s : State) : Result State := ld8 .mHL .c s

/-- `LD (HL),D` (R144). -/
def exec_ld_mHL_D (s : State) : Result State := ld8 .mHL .d s

/-- `LD (HL),E` (R144). -/
def exec_ld_mHL_E (s : State) : Result State := ld8 .mHL .e s

/-- `LD (HL),H` (R144). -/
def exec_ld_mHL_H (s : State) : Result State := ld8 .mHL .h s

/-- `LD (HL),L` (R144). -/
def exec_ld_mHL_L (s : State) : Result State := ld8 .mHL .l s

/-- `LD (HL),A` (R144). -/
def exec_ld_mHL_A (s : State) : Result State := ld8 .mHL .a s

/-- `LD A,B` (R141). -/
def exec_ld_A_B (s : State) : Result State := ld8 .a .b s

/-- `LD A,C` (R141). -/
def exec_ld_A_C (s : State) : Result State := ld8 .a .c s

/-- `LD A,D` (R141). -/
def exec_ld_A_D (s : State) : Result State := ld8 .a .d s

/-- `LD A,E` (R141). -/
def exec_ld_A_E (s : State) : Result State := ld8 .a .e s

/-- `LD A,H` (R141). -/
def exec_ld_A_H (s : State) : Result State := ld8 .a .h s

/-- `LD A,L` (R141). -/
def exec_ld_A_L (s : State) : Result State := ld8 .a .l s

/-- `LD A,(HL)` (R143). -/
def exec_ld_A_mHL (s : State) : Result State := ld8 .a .mHL s

/-- `LD A,A` (R141). -/
def exec_ld_A_A (s : State) : Result State := ld8 .a .a s

/-- `LDH (a8),A` (R155). -/
def exec_ldh_ma8_A (n : Byte) (s : State) : Result State := s.storeA (ioAddress n)

/-- `LDH (C),A` (R153). -/
def exec_ldh_mC_A (s : State) : Result State := s.storeA (ioAddress s.regs.c)

/-- `LD (a16),A` (R151). -/
def exec_ld_ma16_A (a : Word) (s : State) : Result State := s.storeA a

/-- `LDH A,(a8)` (R154). -/
def exec_ldh_A_ma8 (n : Byte) (s : State) : Result State := s.loadA (ioAddress n)

/-- `LDH A,(C)` (R152). -/
def exec_ldh_A_mC (s : State) : Result State := s.loadA (ioAddress s.regs.c)

/-- `LD A,(a16)` (R150). -/
def exec_ld_A_ma16 (a : Word) (s : State) : Result State := s.loadA a

end Sys2Proof.Machine
end

