-- ==== Sys2Proof/Machine/RotateBit.lean ====
section
/-! DEFINITION. Rotates, shifts, SWAP, BIT, RES and SET (44_rotate_shift_bit.md). -/
namespace Sys2Proof.Machine

/-- `BIT b,t` (R274): no write. -/
def bitTest (b : BitNum) (o : Operand8) (s : State) : Result State :=
  (s.readOp8 o).andThen fun p => .next (p.2.setFlags (bitFlags b p.1 s.flags))

/-- RES leaves the flags (R275). -/
def resOut (b : BitNum) (v : Byte) (f : Flags) : AluOut := { res := resByte b v, flags := f }

/-- SET leaves the flags (R276). -/
def setOut (b : BitNum) (v : Byte) (f : Flags) : AluOut := { res := setByte b v, flags := f }

/-! One definition per instruction. -/

/-- `RLCA` (R262). -/
def exec_rlca (s : State) : Result State := s.modifyA (rotAccOut .rlc)

/-- `RRCA` (R263). -/
def exec_rrca (s : State) : Result State := s.modifyA (rotAccOut .rrc)

/-- `RLA` (R264). -/
def exec_rla (s : State) : Result State := s.modifyA (rotAccOut .rl)

/-- `RRA` (R265). -/
def exec_rra (s : State) : Result State := s.modifyA (rotAccOut .rr)

/-- `RLC B` (R266). -/
def exec_rlc_B (s : State) : Result State := s.modify .b (rotOut .rlc)

/-- `RLC C` (R266). -/
def exec_rlc_C (s : State) : Result State := s.modify .c (rotOut .rlc)

/-- `RLC D` (R266). -/
def exec_rlc_D (s : State) : Result State := s.modify .d (rotOut .rlc)

/-- `RLC E` (R266). -/
def exec_rlc_E (s : State) : Result State := s.modify .e (rotOut .rlc)

/-- `RLC H` (R266). -/
def exec_rlc_H (s : State) : Result State := s.modify .h (rotOut .rlc)

/-- `RLC L` (R266). -/
def exec_rlc_L (s : State) : Result State := s.modify .l (rotOut .rlc)

/-- `RLC (HL)` (R266). -/
def exec_rlc_mHL (s : State) : Result State := s.modify .mHL (rotOut .rlc)

/-- `RLC A` (R266). -/
def exec_rlc_A (s : State) : Result State := s.modify .a (rotOut .rlc)

/-- `RRC B` (R267). -/
def exec_rrc_B (s : State) : Result State := s.modify .b (rotOut .rrc)

/-- `RRC C` (R267). -/
def exec_rrc_C (s : State) : Result State := s.modify .c (rotOut .rrc)

/-- `RRC D` (R267). -/
def exec_rrc_D (s : State) : Result State := s.modify .d (rotOut .rrc)

/-- `RRC E` (R267). -/
def exec_rrc_E (s : State) : Result State := s.modify .e (rotOut .rrc)

/-- `RRC H` (R267). -/
def exec_rrc_H (s : State) : Result State := s.modify .h (rotOut .rrc)

/-- `RRC L` (R267). -/
def exec_rrc_L (s : State) : Result State := s.modify .l (rotOut .rrc)

/-- `RRC (HL)` (R267). -/
def exec_rrc_mHL (s : State) : Result State := s.modify .mHL (rotOut .rrc)

/-- `RRC A` (R267). -/
def exec_rrc_A (s : State) : Result State := s.modify .a (rotOut .rrc)

/-- `RL B` (R268). -/
def exec_rl_B (s : State) : Result State := s.modify .b (rotOut .rl)

/-- `RL C` (R268). -/
def exec_rl_C (s : State) : Result State := s.modify .c (rotOut .rl)

/-- `RL D` (R268). -/
def exec_rl_D (s : State) : Result State := s.modify .d (rotOut .rl)

/-- `RL E` (R268). -/
def exec_rl_E (s : State) : Result State := s.modify .e (rotOut .rl)

/-- `RL H` (R268). -/
def exec_rl_H (s : State) : Result State := s.modify .h (rotOut .rl)

/-- `RL L` (R268). -/
def exec_rl_L (s : State) : Result State := s.modify .l (rotOut .rl)

/-- `RL (HL)` (R268). -/
def exec_rl_mHL (s : State) : Result State := s.modify .mHL (rotOut .rl)

/-- `RL A` (R268). -/
def exec_rl_A (s : State) : Result State := s.modify .a (rotOut .rl)

/-- `RR B` (R269). -/
def exec_rr_B (s : State) : Result State := s.modify .b (rotOut .rr)

/-- `RR C` (R269). -/
def exec_rr_C (s : State) : Result State := s.modify .c (rotOut .rr)

/-- `RR D` (R269). -/
def exec_rr_D (s : State) : Result State := s.modify .d (rotOut .rr)

/-- `RR E` (R269). -/
def exec_rr_E (s : State) : Result State := s.modify .e (rotOut .rr)

/-- `RR H` (R269). -/
def exec_rr_H (s : State) : Result State := s.modify .h (rotOut .rr)

/-- `RR L` (R269). -/
def exec_rr_L (s : State) : Result State := s.modify .l (rotOut .rr)

/-- `RR (HL)` (R269). -/
def exec_rr_mHL (s : State) : Result State := s.modify .mHL (rotOut .rr)

/-- `RR A` (R269). -/
def exec_rr_A (s : State) : Result State := s.modify .a (rotOut .rr)

/-- `SLA B` (R270). -/
def exec_sla_B (s : State) : Result State := s.modify .b (rotOut .sla)

/-- `SLA C` (R270). -/
def exec_sla_C (s : State) : Result State := s.modify .c (rotOut .sla)

/-- `SLA D` (R270). -/
def exec_sla_D (s : State) : Result State := s.modify .d (rotOut .sla)

/-- `SLA E` (R270). -/
def exec_sla_E (s : State) : Result State := s.modify .e (rotOut .sla)

/-- `SLA H` (R270). -/
def exec_sla_H (s : State) : Result State := s.modify .h (rotOut .sla)

/-- `SLA L` (R270). -/
def exec_sla_L (s : State) : Result State := s.modify .l (rotOut .sla)

/-- `SLA (HL)` (R270). -/
def exec_sla_mHL (s : State) : Result State := s.modify .mHL (rotOut .sla)

/-- `SLA A` (R270). -/
def exec_sla_A (s : State) : Result State := s.modify .a (rotOut .sla)

/-- `SRA B` (R271). -/
def exec_sra_B (s : State) : Result State := s.modify .b (rotOut .sra)

/-- `SRA C` (R271). -/
def exec_sra_C (s : State) : Result State := s.modify .c (rotOut .sra)

/-- `SRA D` (R271). -/
def exec_sra_D (s : State) : Result State := s.modify .d (rotOut .sra)

/-- `SRA E` (R271). -/
def exec_sra_E (s : State) : Result State := s.modify .e (rotOut .sra)

/-- `SRA H` (R271). -/
def exec_sra_H (s : State) : Result State := s.modify .h (rotOut .sra)

/-- `SRA L` (R271). -/
def exec_sra_L (s : State) : Result State := s.modify .l (rotOut .sra)

/-- `SRA (HL)` (R271). -/
def exec_sra_mHL (s : State) : Result State := s.modify .mHL (rotOut .sra)

/-- `SRA A` (R271). -/
def exec_sra_A (s : State) : Result State := s.modify .a (rotOut .sra)

/-- `SWAP B` (R272). -/
def exec_swap_B (s : State) : Result State := s.modify .b (rotOut .swap)

/-- `SWAP C` (R272). -/
def exec_swap_C (s : State) : Result State := s.modify .c (rotOut .swap)

/-- `SWAP D` (R272). -/
def exec_swap_D (s : State) : Result State := s.modify .d (rotOut .swap)

/-- `SWAP E` (R272). -/
def exec_swap_E (s : State) : Result State := s.modify .e (rotOut .swap)

/-- `SWAP H` (R272). -/
def exec_swap_H (s : State) : Result State := s.modify .h (rotOut .swap)

/-- `SWAP L` (R272). -/
def exec_swap_L (s : State) : Result State := s.modify .l (rotOut .swap)

/-- `SWAP (HL)` (R272). -/
def exec_swap_mHL (s : State) : Result State := s.modify .mHL (rotOut .swap)

/-- `SWAP A` (R272). -/
def exec_swap_A (s : State) : Result State := s.modify .a (rotOut .swap)

/-- `SRL B` (R273). -/
def exec_srl_B (s : State) : Result State := s.modify .b (rotOut .srl)

/-- `SRL C` (R273). -/
def exec_srl_C (s : State) : Result State := s.modify .c (rotOut .srl)

/-- `SRL D` (R273). -/
def exec_srl_D (s : State) : Result State := s.modify .d (rotOut .srl)

/-- `SRL E` (R273). -/
def exec_srl_E (s : State) : Result State := s.modify .e (rotOut .srl)

/-- `SRL H` (R273). -/
def exec_srl_H (s : State) : Result State := s.modify .h (rotOut .srl)

/-- `SRL L` (R273). -/
def exec_srl_L (s : State) : Result State := s.modify .l (rotOut .srl)

/-- `SRL (HL)` (R273). -/
def exec_srl_mHL (s : State) : Result State := s.modify .mHL (rotOut .srl)

/-- `SRL A` (R273). -/
def exec_srl_A (s : State) : Result State := s.modify .a (rotOut .srl)

/-- `BIT 0,B` (R274). -/
def exec_bit_0_B (s : State) : Result State := bitTest .b0 .b s

/-- `BIT 0,C` (R274). -/
def exec_bit_0_C (s : State) : Result State := bitTest .b0 .c s

/-- `BIT 0,D` (R274). -/
def exec_bit_0_D (s : State) : Result State := bitTest .b0 .d s

/-- `BIT 0,E` (R274). -/
def exec_bit_0_E (s : State) : Result State := bitTest .b0 .e s

/-- `BIT 0,H` (R274). -/
def exec_bit_0_H (s : State) : Result State := bitTest .b0 .h s

/-- `BIT 0,L` (R274). -/
def exec_bit_0_L (s : State) : Result State := bitTest .b0 .l s

/-- `BIT 0,(HL)` (R274). -/
def exec_bit_0_mHL (s : State) : Result State := bitTest .b0 .mHL s

/-- `BIT 0,A` (R274). -/
def exec_bit_0_A (s : State) : Result State := bitTest .b0 .a s

/-- `BIT 1,B` (R274). -/
def exec_bit_1_B (s : State) : Result State := bitTest .b1 .b s

/-- `BIT 1,C` (R274). -/
def exec_bit_1_C (s : State) : Result State := bitTest .b1 .c s

/-- `BIT 1,D` (R274). -/
def exec_bit_1_D (s : State) : Result State := bitTest .b1 .d s

/-- `BIT 1,E` (R274). -/
def exec_bit_1_E (s : State) : Result State := bitTest .b1 .e s

/-- `BIT 1,H` (R274). -/
def exec_bit_1_H (s : State) : Result State := bitTest .b1 .h s

/-- `BIT 1,L` (R274). -/
def exec_bit_1_L (s : State) : Result State := bitTest .b1 .l s

/-- `BIT 1,(HL)` (R274). -/
def exec_bit_1_mHL (s : State) : Result State := bitTest .b1 .mHL s

/-- `BIT 1,A` (R274). -/
def exec_bit_1_A (s : State) : Result State := bitTest .b1 .a s

/-- `BIT 2,B` (R274). -/
def exec_bit_2_B (s : State) : Result State := bitTest .b2 .b s

/-- `BIT 2,C` (R274). -/
def exec_bit_2_C (s : State) : Result State := bitTest .b2 .c s

/-- `BIT 2,D` (R274). -/
def exec_bit_2_D (s : State) : Result State := bitTest .b2 .d s

/-- `BIT 2,E` (R274). -/
def exec_bit_2_E (s : State) : Result State := bitTest .b2 .e s

/-- `BIT 2,H` (R274). -/
def exec_bit_2_H (s : State) : Result State := bitTest .b2 .h s

/-- `BIT 2,L` (R274). -/
def exec_bit_2_L (s : State) : Result State := bitTest .b2 .l s

/-- `BIT 2,(HL)` (R274). -/
def exec_bit_2_mHL (s : State) : Result State := bitTest .b2 .mHL s

/-- `BIT 2,A` (R274). -/
def exec_bit_2_A (s : State) : Result State := bitTest .b2 .a s

/-- `BIT 3,B` (R274). -/
def exec_bit_3_B (s : State) : Result State := bitTest .b3 .b s

/-- `BIT 3,C` (R274). -/
def exec_bit_3_C (s : State) : Result State := bitTest .b3 .c s

/-- `BIT 3,D` (R274). -/
def exec_bit_3_D (s : State) : Result State := bitTest .b3 .d s

/-- `BIT 3,E` (R274). -/
def exec_bit_3_E (s : State) : Result State := bitTest .b3 .e s

/-- `BIT 3,H` (R274). -/
def exec_bit_3_H (s : State) : Result State := bitTest .b3 .h s

/-- `BIT 3,L` (R274). -/
def exec_bit_3_L (s : State) : Result State := bitTest .b3 .l s

/-- `BIT 3,(HL)` (R274). -/
def exec_bit_3_mHL (s : State) : Result State := bitTest .b3 .mHL s

/-- `BIT 3,A` (R274). -/
def exec_bit_3_A (s : State) : Result State := bitTest .b3 .a s

/-- `BIT 4,B` (R274). -/
def exec_bit_4_B (s : State) : Result State := bitTest .b4 .b s

/-- `BIT 4,C` (R274). -/
def exec_bit_4_C (s : State) : Result State := bitTest .b4 .c s

/-- `BIT 4,D` (R274). -/
def exec_bit_4_D (s : State) : Result State := bitTest .b4 .d s

/-- `BIT 4,E` (R274). -/
def exec_bit_4_E (s : State) : Result State := bitTest .b4 .e s

/-- `BIT 4,H` (R274). -/
def exec_bit_4_H (s : State) : Result State := bitTest .b4 .h s

/-- `BIT 4,L` (R274). -/
def exec_bit_4_L (s : State) : Result State := bitTest .b4 .l s

/-- `BIT 4,(HL)` (R274). -/
def exec_bit_4_mHL (s : State) : Result State := bitTest .b4 .mHL s

/-- `BIT 4,A` (R274). -/
def exec_bit_4_A (s : State) : Result State := bitTest .b4 .a s

/-- `BIT 5,B` (R274). -/
def exec_bit_5_B (s : State) : Result State := bitTest .b5 .b s

/-- `BIT 5,C` (R274). -/
def exec_bit_5_C (s : State) : Result State := bitTest .b5 .c s

/-- `BIT 5,D` (R274). -/
def exec_bit_5_D (s : State) : Result State := bitTest .b5 .d s

/-- `BIT 5,E` (R274). -/
def exec_bit_5_E (s : State) : Result State := bitTest .b5 .e s

/-- `BIT 5,H` (R274). -/
def exec_bit_5_H (s : State) : Result State := bitTest .b5 .h s

/-- `BIT 5,L` (R274). -/
def exec_bit_5_L (s : State) : Result State := bitTest .b5 .l s

/-- `BIT 5,(HL)` (R274). -/
def exec_bit_5_mHL (s : State) : Result State := bitTest .b5 .mHL s

/-- `BIT 5,A` (R274). -/
def exec_bit_5_A (s : State) : Result State := bitTest .b5 .a s

/-- `BIT 6,B` (R274). -/
def exec_bit_6_B (s : State) : Result State := bitTest .b6 .b s

/-- `BIT 6,C` (R274). -/
def exec_bit_6_C (s : State) : Result State := bitTest .b6 .c s

/-- `BIT 6,D` (R274). -/
def exec_bit_6_D (s : State) : Result State := bitTest .b6 .d s

/-- `BIT 6,E` (R274). -/
def exec_bit_6_E (s : State) : Result State := bitTest .b6 .e s

/-- `BIT 6,H` (R274). -/
def exec_bit_6_H (s : State) : Result State := bitTest .b6 .h s

/-- `BIT 6,L` (R274). -/
def exec_bit_6_L (s : State) : Result State := bitTest .b6 .l s

/-- `BIT 6,(HL)` (R274). -/
def exec_bit_6_mHL (s : State) : Result State := bitTest .b6 .mHL s

/-- `BIT 6,A` (R274). -/
def exec_bit_6_A (s : State) : Result State := bitTest .b6 .a s

/-- `BIT 7,B` (R274). -/
def exec_bit_7_B (s : State) : Result State := bitTest .b7 .b s

/-- `BIT 7,C` (R274). -/
def exec_bit_7_C (s : State) : Result State := bitTest .b7 .c s

/-- `BIT 7,D` (R274). -/
def exec_bit_7_D (s : State) : Result State := bitTest .b7 .d s

/-- `BIT 7,E` (R274). -/
def exec_bit_7_E (s : State) : Result State := bitTest .b7 .e s

/-- `BIT 7,H` (R274). -/
def exec_bit_7_H (s : State) : Result State := bitTest .b7 .h s

/-- `BIT 7,L` (R274). -/
def exec_bit_7_L (s : State) : Result State := bitTest .b7 .l s

/-- `BIT 7,(HL)` (R274). -/
def exec_bit_7_mHL (s : State) : Result State := bitTest .b7 .mHL s

/-- `BIT 7,A` (R274). -/
def exec_bit_7_A (s : State) : Result State := bitTest .b7 .a s

/-- `RES 0,B` (R275). -/
def exec_res_0_B (s : State) : Result State := s.modify .b (resOut .b0)

/-- `RES 0,C` (R275). -/
def exec_res_0_C (s : State) : Result State := s.modify .c (resOut .b0)

/-- `RES 0,D` (R275). -/
def exec_res_0_D (s : State) : Result State := s.modify .d (resOut .b0)

/-- `RES 0,E` (R275). -/
def exec_res_0_E (s : State) : Result State := s.modify .e (resOut .b0)

/-- `RES 0,H` (R275). -/
def exec_res_0_H (s : State) : Result State := s.modify .h (resOut .b0)

/-- `RES 0,L` (R275). -/
def exec_res_0_L (s : State) : Result State := s.modify .l (resOut .b0)

/-- `RES 0,(HL)` (R275). -/
def exec_res_0_mHL (s : State) : Result State := s.modify .mHL (resOut .b0)

/-- `RES 0,A` (R275). -/
def exec_res_0_A (s : State) : Result State := s.modify .a (resOut .b0)

/-- `RES 1,B` (R275). -/
def exec_res_1_B (s : State) : Result State := s.modify .b (resOut .b1)

/-- `RES 1,C` (R275). -/
def exec_res_1_C (s : State) : Result State := s.modify .c (resOut .b1)

/-- `RES 1,D` (R275). -/
def exec_res_1_D (s : State) : Result State := s.modify .d (resOut .b1)

/-- `RES 1,E` (R275). -/
def exec_res_1_E (s : State) : Result State := s.modify .e (resOut .b1)

/-- `RES 1,H` (R275). -/
def exec_res_1_H (s : State) : Result State := s.modify .h (resOut .b1)

/-- `RES 1,L` (R275). -/
def exec_res_1_L (s : State) : Result State := s.modify .l (resOut .b1)

/-- `RES 1,(HL)` (R275). -/
def exec_res_1_mHL (s : State) : Result State := s.modify .mHL (resOut .b1)

/-- `RES 1,A` (R275). -/
def exec_res_1_A (s : State) : Result State := s.modify .a (resOut .b1)

/-- `RES 2,B` (R275). -/
def exec_res_2_B (s : State) : Result State := s.modify .b (resOut .b2)

/-- `RES 2,C` (R275). -/
def exec_res_2_C (s : State) : Result State := s.modify .c (resOut .b2)

/-- `RES 2,D` (R275). -/
def exec_res_2_D (s : State) : Result State := s.modify .d (resOut .b2)

/-- `RES 2,E` (R275). -/
def exec_res_2_E (s : State) : Result State := s.modify .e (resOut .b2)

/-- `RES 2,H` (R275). -/
def exec_res_2_H (s : State) : Result State := s.modify .h (resOut .b2)

/-- `RES 2,L` (R275). -/
def exec_res_2_L (s : State) : Result State := s.modify .l (resOut .b2)

/-- `RES 2,(HL)` (R275). -/
def exec_res_2_mHL (s : State) : Result State := s.modify .mHL (resOut .b2)

/-- `RES 2,A` (R275). -/
def exec_res_2_A (s : State) : Result State := s.modify .a (resOut .b2)

/-- `RES 3,B` (R275). -/
def exec_res_3_B (s : State) : Result State := s.modify .b (resOut .b3)

/-- `RES 3,C` (R275). -/
def exec_res_3_C (s : State) : Result State := s.modify .c (resOut .b3)

/-- `RES 3,D` (R275). -/
def exec_res_3_D (s : State) : Result State := s.modify .d (resOut .b3)

/-- `RES 3,E` (R275). -/
def exec_res_3_E (s : State) : Result State := s.modify .e (resOut .b3)

/-- `RES 3,H` (R275). -/
def exec_res_3_H (s : State) : Result State := s.modify .h (resOut .b3)

/-- `RES 3,L` (R275). -/
def exec_res_3_L (s : State) : Result State := s.modify .l (resOut .b3)

/-- `RES 3,(HL)` (R275). -/
def exec_res_3_mHL (s : State) : Result State := s.modify .mHL (resOut .b3)

/-- `RES 3,A` (R275). -/
def exec_res_3_A (s : State) : Result State := s.modify .a (resOut .b3)

/-- `RES 4,B` (R275). -/
def exec_res_4_B (s : State) : Result State := s.modify .b (resOut .b4)

/-- `RES 4,C` (R275). -/
def exec_res_4_C (s : State) : Result State := s.modify .c (resOut .b4)

/-- `RES 4,D` (R275). -/
def exec_res_4_D (s : State) : Result State := s.modify .d (resOut .b4)

/-- `RES 4,E` (R275). -/
def exec_res_4_E (s : State) : Result State := s.modify .e (resOut .b4)

/-- `RES 4,H` (R275). -/
def exec_res_4_H (s : State) : Result State := s.modify .h (resOut .b4)

/-- `RES 4,L` (R275). -/
def exec_res_4_L (s : State) : Result State := s.modify .l (resOut .b4)

/-- `RES 4,(HL)` (R275). -/
def exec_res_4_mHL (s : State) : Result State := s.modify .mHL (resOut .b4)

/-- `RES 4,A` (R275). -/
def exec_res_4_A (s : State) : Result State := s.modify .a (resOut .b4)

/-- `RES 5,B` (R275). -/
def exec_res_5_B (s : State) : Result State := s.modify .b (resOut .b5)

/-- `RES 5,C` (R275). -/
def exec_res_5_C (s : State) : Result State := s.modify .c (resOut .b5)

/-- `RES 5,D` (R275). -/
def exec_res_5_D (s : State) : Result State := s.modify .d (resOut .b5)

/-- `RES 5,E` (R275). -/
def exec_res_5_E (s : State) : Result State := s.modify .e (resOut .b5)

/-- `RES 5,H` (R275). -/
def exec_res_5_H (s : State) : Result State := s.modify .h (resOut .b5)

/-- `RES 5,L` (R275). -/
def exec_res_5_L (s : State) : Result State := s.modify .l (resOut .b5)

/-- `RES 5,(HL)` (R275). -/
def exec_res_5_mHL (s : State) : Result State := s.modify .mHL (resOut .b5)

/-- `RES 5,A` (R275). -/
def exec_res_5_A (s : State) : Result State := s.modify .a (resOut .b5)

/-- `RES 6,B` (R275). -/
def exec_res_6_B (s : State) : Result State := s.modify .b (resOut .b6)

/-- `RES 6,C` (R275). -/
def exec_res_6_C (s : State) : Result State := s.modify .c (resOut .b6)

/-- `RES 6,D` (R275). -/
def exec_res_6_D (s : State) : Result State := s.modify .d (resOut .b6)

/-- `RES 6,E` (R275). -/
def exec_res_6_E (s : State) : Result State := s.modify .e (resOut .b6)

/-- `RES 6,H` (R275). -/
def exec_res_6_H (s : State) : Result State := s.modify .h (resOut .b6)

/-- `RES 6,L` (R275). -/
def exec_res_6_L (s : State) : Result State := s.modify .l (resOut .b6)

/-- `RES 6,(HL)` (R275). -/
def exec_res_6_mHL (s : State) : Result State := s.modify .mHL (resOut .b6)

/-- `RES 6,A` (R275). -/
def exec_res_6_A (s : State) : Result State := s.modify .a (resOut .b6)

/-- `RES 7,B` (R275). -/
def exec_res_7_B (s : State) : Result State := s.modify .b (resOut .b7)

/-- `RES 7,C` (R275). -/
def exec_res_7_C (s : State) : Result State := s.modify .c (resOut .b7)

/-- `RES 7,D` (R275). -/
def exec_res_7_D (s : State) : Result State := s.modify .d (resOut .b7)

/-- `RES 7,E` (R275). -/
def exec_res_7_E (s : State) : Result State := s.modify .e (resOut .b7)

/-- `RES 7,H` (R275). -/
def exec_res_7_H (s : State) : Result State := s.modify .h (resOut .b7)

/-- `RES 7,L` (R275). -/
def exec_res_7_L (s : State) : Result State := s.modify .l (resOut .b7)

/-- `RES 7,(HL)` (R275). -/
def exec_res_7_mHL (s : State) : Result State := s.modify .mHL (resOut .b7)

/-- `RES 7,A` (R275). -/
def exec_res_7_A (s : State) : Result State := s.modify .a (resOut .b7)

/-- `SET 0,B` (R276). -/
def exec_set_0_B (s : State) : Result State := s.modify .b (setOut .b0)

/-- `SET 0,C` (R276). -/
def exec_set_0_C (s : State) : Result State := s.modify .c (setOut .b0)

/-- `SET 0,D` (R276). -/
def exec_set_0_D (s : State) : Result State := s.modify .d (setOut .b0)

/-- `SET 0,E` (R276). -/
def exec_set_0_E (s : State) : Result State := s.modify .e (setOut .b0)

/-- `SET 0,H` (R276). -/
def exec_set_0_H (s : State) : Result State := s.modify .h (setOut .b0)

/-- `SET 0,L` (R276). -/
def exec_set_0_L (s : State) : Result State := s.modify .l (setOut .b0)

/-- `SET 0,(HL)` (R276). -/
def exec_set_0_mHL (s : State) : Result State := s.modify .mHL (setOut .b0)

/-- `SET 0,A` (R276). -/
def exec_set_0_A (s : State) : Result State := s.modify .a (setOut .b0)

/-- `SET 1,B` (R276). -/
def exec_set_1_B (s : State) : Result State := s.modify .b (setOut .b1)

/-- `SET 1,C` (R276). -/
def exec_set_1_C (s : State) : Result State := s.modify .c (setOut .b1)

/-- `SET 1,D` (R276). -/
def exec_set_1_D (s : State) : Result State := s.modify .d (setOut .b1)

/-- `SET 1,E` (R276). -/
def exec_set_1_E (s : State) : Result State := s.modify .e (setOut .b1)

/-- `SET 1,H` (R276). -/
def exec_set_1_H (s : State) : Result State := s.modify .h (setOut .b1)

/-- `SET 1,L` (R276). -/
def exec_set_1_L (s : State) : Result State := s.modify .l (setOut .b1)

/-- `SET 1,(HL)` (R276). -/
def exec_set_1_mHL (s : State) : Result State := s.modify .mHL (setOut .b1)

/-- `SET 1,A` (R276). -/
def exec_set_1_A (s : State) : Result State := s.modify .a (setOut .b1)

/-- `SET 2,B` (R276). -/
def exec_set_2_B (s : State) : Result State := s.modify .b (setOut .b2)

/-- `SET 2,C` (R276). -/
def exec_set_2_C (s : State) : Result State := s.modify .c (setOut .b2)

/-- `SET 2,D` (R276). -/
def exec_set_2_D (s : State) : Result State := s.modify .d (setOut .b2)

/-- `SET 2,E` (R276). -/
def exec_set_2_E (s : State) : Result State := s.modify .e (setOut .b2)

/-- `SET 2,H` (R276). -/
def exec_set_2_H (s : State) : Result State := s.modify .h (setOut .b2)

/-- `SET 2,L` (R276). -/
def exec_set_2_L (s : State) : Result State := s.modify .l (setOut .b2)

/-- `SET 2,(HL)` (R276). -/
def exec_set_2_mHL (s : State) : Result State := s.modify .mHL (setOut .b2)

/-- `SET 2,A` (R276). -/
def exec_set_2_A (s : State) : Result State := s.modify .a (setOut .b2)

/-- `SET 3,B` (R276). -/
def exec_set_3_B (s : State) : Result State := s.modify .b (setOut .b3)

/-- `SET 3,C` (R276). -/
def exec_set_3_C (s : State) : Result State := s.modify .c (setOut .b3)

/-- `SET 3,D` (R276). -/
def exec_set_3_D (s : State) : Result State := s.modify .d (setOut .b3)

/-- `SET 3,E` (R276). -/
def exec_set_3_E (s : State) : Result State := s.modify .e (setOut .b3)

/-- `SET 3,H` (R276). -/
def exec_set_3_H (s : State) : Result State := s.modify .h (setOut .b3)

/-- `SET 3,L` (R276). -/
def exec_set_3_L (s : State) : Result State := s.modify .l (setOut .b3)

/-- `SET 3,(HL)` (R276). -/
def exec_set_3_mHL (s : State) : Result State := s.modify .mHL (setOut .b3)

/-- `SET 3,A` (R276). -/
def exec_set_3_A (s : State) : Result State := s.modify .a (setOut .b3)

/-- `SET 4,B` (R276). -/
def exec_set_4_B (s : State) : Result State := s.modify .b (setOut .b4)

/-- `SET 4,C` (R276). -/
def exec_set_4_C (s : State) : Result State := s.modify .c (setOut .b4)

/-- `SET 4,D` (R276). -/
def exec_set_4_D (s : State) : Result State := s.modify .d (setOut .b4)

/-- `SET 4,E` (R276). -/
def exec_set_4_E (s : State) : Result State := s.modify .e (setOut .b4)

/-- `SET 4,H` (R276). -/
def exec_set_4_H (s : State) : Result State := s.modify .h (setOut .b4)

/-- `SET 4,L` (R276). -/
def exec_set_4_L (s : State) : Result State := s.modify .l (setOut .b4)

/-- `SET 4,(HL)` (R276). -/
def exec_set_4_mHL (s : State) : Result State := s.modify .mHL (setOut .b4)

/-- `SET 4,A` (R276). -/
def exec_set_4_A (s : State) : Result State := s.modify .a (setOut .b4)

/-- `SET 5,B` (R276). -/
def exec_set_5_B (s : State) : Result State := s.modify .b (setOut .b5)

/-- `SET 5,C` (R276). -/
def exec_set_5_C (s : State) : Result State := s.modify .c (setOut .b5)

/-- `SET 5,D` (R276). -/
def exec_set_5_D (s : State) : Result State := s.modify .d (setOut .b5)

/-- `SET 5,E` (R276). -/
def exec_set_5_E (s : State) : Result State := s.modify .e (setOut .b5)

/-- `SET 5,H` (R276). -/
def exec_set_5_H (s : State) : Result State := s.modify .h (setOut .b5)

/-- `SET 5,L` (R276). -/
def exec_set_5_L (s : State) : Result State := s.modify .l (setOut .b5)

/-- `SET 5,(HL)` (R276). -/
def exec_set_5_mHL (s : State) : Result State := s.modify .mHL (setOut .b5)

/-- `SET 5,A` (R276). -/
def exec_set_5_A (s : State) : Result State := s.modify .a (setOut .b5)

/-- `SET 6,B` (R276). -/
def exec_set_6_B (s : State) : Result State := s.modify .b (setOut .b6)

/-- `SET 6,C` (R276). -/
def exec_set_6_C (s : State) : Result State := s.modify .c (setOut .b6)

/-- `SET 6,D` (R276). -/
def exec_set_6_D (s : State) : Result State := s.modify .d (setOut .b6)

/-- `SET 6,E` (R276). -/
def exec_set_6_E (s : State) : Result State := s.modify .e (setOut .b6)

/-- `SET 6,H` (R276). -/
def exec_set_6_H (s : State) : Result State := s.modify .h (setOut .b6)

/-- `SET 6,L` (R276). -/
def exec_set_6_L (s : State) : Result State := s.modify .l (setOut .b6)

/-- `SET 6,(HL)` (R276). -/
def exec_set_6_mHL (s : State) : Result State := s.modify .mHL (setOut .b6)

/-- `SET 6,A` (R276). -/
def exec_set_6_A (s : State) : Result State := s.modify .a (setOut .b6)

/-- `SET 7,B` (R276). -/
def exec_set_7_B (s : State) : Result State := s.modify .b (setOut .b7)

/-- `SET 7,C` (R276). -/
def exec_set_7_C (s : State) : Result State := s.modify .c (setOut .b7)

/-- `SET 7,D` (R276). -/
def exec_set_7_D (s : State) : Result State := s.modify .d (setOut .b7)

/-- `SET 7,E` (R276). -/
def exec_set_7_E (s : State) : Result State := s.modify .e (setOut .b7)

/-- `SET 7,H` (R276). -/
def exec_set_7_H (s : State) : Result State := s.modify .h (setOut .b7)

/-- `SET 7,L` (R276). -/
def exec_set_7_L (s : State) : Result State := s.modify .l (setOut .b7)

/-- `SET 7,(HL)` (R276). -/
def exec_set_7_mHL (s : State) : Result State := s.modify .mHL (setOut .b7)

/-- `SET 7,A` (R276). -/
def exec_set_7_A (s : State) : Result State := s.modify .a (setOut .b7)

end Sys2Proof.Machine
end

