-- ==== Sys2Proof/Machine/Display.lean ====
section
/-! DEFINITION. The display-timing state machine (60_exceptions.md R390 to R399) and its two output strobes
(10_state.md R46). -/
namespace Sys2Proof.Machine

/-- The LCD-status interrupt line, the OR of the latches (10_state.md R42). -/
def Lcd.statLine (l : Lcd) : Bool := l.latch0 || l.latch1 || l.latch2 || l.latchL

/-- The four latches recomputed (R396). -/
def Lcd.evalLatches (l : Lcd) : Lcd :=
  { l with
    latch0 := l.en0 && (l.mode == .hblank)
    latch1 := l.en1 && (l.mode == .vblank)
    latch2 := l.en2 && (l.mode == .oamSearch)
    latchL := l.enL && l.lyMatch }

/-- `StatEval()` (R396): a request on a false-to-true edge of the line only. -/
def State.statEval (s : State) : State :=
  let t := { s with lcd := s.lcd.evalLatches }
  if !s.lcd.statLine && s.lcd.evalLatches.statLine then t.raise .lcdStatus else t

/-- The first dot that no longer is in PixelTransfer (R390). -/
def pixelTransferEnd : Nat := Config.oamDots + Config.pixelTransferDots

namespace State

/-- The end of OamSearch (R394). -/
def endOamSearch (s : State) : State := State.statEval { s with lcd := { s.lcd with mode := .pixelTransfer } }

/-- The end of PixelTransfer (R391). -/
def endPixelTransfer (s : State) : State := State.statEval { s with lcd := { s.lcd with mode := .hblank } }

/-- The end of a visible line (R392). -/
def endHBlank (s : State) : State :=
  if s.lcd.ly + 1 = Config.visibleLines then
    State.statEval (State.raise { s with lcd :=
      { s.lcd with
        dot := 0, ly := s.lcd.ly + 1, mode := .vblank
        frame := wrapTo s.params.frameWidth (s.lcd.frame + 1) } } .vblank)
  else State.statEval { s with lcd := { s.lcd with dot := 0, ly := s.lcd.ly + 1, mode := .oamSearch } }

/-- The end of a VBlank line (R393). -/
def endVBlankLine (s : State) : State :=
  if s.lcd.ly + 1 = Config.linesPerFrame then
    State.statEval { s with lcd :=
      { s.lcd with dot := 0, ly := 0, windowLine := wrapTo s.params.windowLineWidth 0, mode := .oamSearch } }
  else State.statEval { s with lcd := { s.lcd with dot := 0, ly := s.lcd.ly + 1 } }

/-- The dot counted first (R390). -/
def countDot (s : State) : State := { s with lcd := { s.lcd with dot := s.lcd.dot + 1 } }

/-- The display steps: whatever `LCDC[7]` is with the default LCD_FREE_RUN (R399), otherwise while it is set. -/
def lcdRuns (s : State) : Bool := s.params.lcdFreeRun || s.displayOn

/-- The body of `lcd_step()` (R390). -/
def lcdAdvance (s : State) : State :=
  let t := s.countDot
  match s.lcd.mode with
  | .oamSearch => if s.lcd.dot + 1 = Config.oamDots then t.endOamSearch else t
  | .pixelTransfer => if s.lcd.dot + 1 = pixelTransferEnd then t.endPixelTransfer else t
  | .hblank => if s.lcd.dot + 1 = Config.dotsPerLine then t.endHBlank else t
  | .vblank => if s.lcd.dot + 1 = Config.dotsPerLine then t.endVBlankLine else t

/-- `lcd_step()` (R390, R399). -/
def lcdStep (s : State) : State := if s.lcdRuns then s.lcdAdvance else s

end State

/-- The output strobes (10_state.md R46). They are not state, and nothing in the block depends on them (log 15). -/
inductive Strobe where
  | pixelPlaced (x ly : Nat)
  | frameComplete
  deriving DecidableEq, Repr

/-- The strobes that a stepping display emits from this state of it (R391, R392). -/
def Lcd.strobes (l : Lcd) : List Strobe :=
  match l.mode with
  | .pixelTransfer =>
    let p := l.dot + 1 - Config.oamDots
    if p > Config.fetchPenaltyDots then [.pixelPlaced (p - (Config.fetchPenaltyDots + 1)) l.ly] else []
  | .hblank => if l.dot + 1 = Config.dotsPerLine ∧ l.ly + 1 = Config.visibleLines then [.frameComplete] else []
  | .oamSearch => []
  | .vblank => []

/-- The strobes that `lcd_step()` emits (R391, R392). -/
def State.strobes (s : State) : List Strobe := if s.lcdRuns then s.lcd.strobes else []

end Sys2Proof.Machine
end

