-- ==== Sys2Proof/Machine/Timer.lean ====
section
/-! DEFINITION. The timer (60_exceptions.md R380 to R384). -/
namespace Sys2Proof.Machine

/-- The frequencies of the 2-bit select, in Hz (10_state.md R36). -/
def timerHz (sel : BitVec 2) : Nat :=
  match sel.toNat with
  | 0 => 4096
  | 1 => 262144
  | 2 => 65536
  | _ => 16384

/-- The period of TIMA in clock-ticks, `4194304 / frequency` (R36). -/
def timerPeriod (sel : BitVec 2) : Nat := Config.clockHz / timerHz sel

/-- `TAC[2]` (R36). -/
def Timer.enabled (t : Timer) : Bool := t.tac.getLsbD 2

/-- `TAC[1:0]` (R36). -/
def Timer.select (t : Timer) : BitVec 2 := t.tac.extractLsb' 0 2

/-- The divider half of `timer_step` (R381). -/
def Timer.divTick (t : Timer) : Timer :=
  if t.divAcc + 1 ≥ Config.divPeriod then { t with divAcc := 0, div := t.div + 1#8 } else { t with divAcc := t.divAcc + 1 }

/-- The counter overflows in this tick (R381). -/
def Timer.overflows (t : Timer) : Bool :=
  t.enabled && decide (t.timaAcc + 1 ≥ timerPeriod t.select) && t.tima == 0xFF#8

/-- The counter half of `timer_step` (R381). -/
def Timer.counterTick (t : Timer) : Timer :=
  if t.enabled then
    if t.timaAcc + 1 ≥ timerPeriod t.select then
      { t with timaAcc := 0, tima := if t.tima = 0xFF#8 then t.tma else t.tima + 1#8 }
    else { t with timaAcc := t.timaAcc + 1 }
  else t

/-- `timer_step()` (R381): the interrupt is raised in the tick of the overflow. -/
def State.timerStep (s : State) : State :=
  let t := { s with timer := s.timer.divTick.counterTick }
  if s.timer.overflows then t.raise .timer else t

end Sys2Proof.Machine
end

