-- ==== Sys2Proof/Machine/Cpu.lean ====
section
/-! DEFINITION. Fetching (00_scope.md R11, 30_encoding.md R101), the CPU step (60_exceptions.md R358, R359), the ticks and the
machine step (R410). -/
namespace Sys2Proof.Machine

namespace State

/-- `Fetch8()` (R11): the byte at the pc, and the state with the pc past it. -/
def fetch8 (s : State) : Result (Byte × State) :=
  (s.memRead s.pc).andThen fun p => .next (p.1, p.2.setPc (s.pc + 1#16))

/-- `FetchOpcode()` (R101): a queued byte is returned without advancing the pc. -/
def fetchOpcode (s : State) : Result (Byte × State) :=
  match s.hq with
  | some b => .next (b, { s with hq := none })
  | none => s.fetch8

/-- How many bytes are fetched after the opcode byte: R121, but the operand byte of opcode 0x10 only when STOP_BEHAVIOUR =
nop2 gives it an execution (46_cpu_control.md R332, 60_exceptions.md R358). -/
def operandBytes (s : State) (op : Byte) : Nat :=
  if op = 0x10#8 ∧ s.params.stopBehaviour ≠ .nop2 then 0 else operandCount op

/-- Fetching and decoding one instruction: the opcode byte, read by the opcode map, then its operand bytes in ascending address
order (R91, log 7). -/
def fetchInstr (s : State) : Result (Instr × State) :=
  s.fetchOpcode.andThen fun p =>
  let op := s.params.opcodeMap.firstByte p.1
  match s.operandBytes op with
  | 0 => .next (decodeBytes op 0#8 0#8, p.2)
  | 1 => p.2.fetch8.andThen fun q => .next (decodeBytes op (s.params.opcodeMap.byteAfter op q.1) 0#8, q.2)
  | _ =>
    p.2.fetch8.andThen fun q => q.2.fetch8.andThen fun r =>
    .next (decodeBytes op (s.params.immOrder.pair q.1 r.1).1 (s.params.immOrder.pair q.1 r.1).2, r.2)

/-- One instruction or one idle machine-cycle (R358, R359): the machine-cycles and the state. -/
def executeOne (s : State) : Result (Nat × State) :=
  if s.halted then .next (s.params.haltIdleMCycles, s)
  else
    s.fetchInstr.andThen fun p =>
    Result.andThen (exec p.1 p.2) fun t => .next (cycles s.params.cycleTable p.1 (taken p.1 p.2.flags), t)

/-- The end of a CPU step with EI_DELAY = 1 (46_cpu_control.md R334; log 11): an `ime_pending` that was set before the step
and that the step's instruction did not clear sets IME. -/
def settleIme (before : Bool) (s : State) : State :=
  if before && s.imePending then { s with ime := true, imePending := false } else s

/-- `cpu_step()` after its instruction: the interrupt check, whose cycles are added (R358, R364), then R334's delay. -/
def finishCpuStep (before : Bool) (m : Nat) (s : State) : Result (Nat × State) :=
  s.interruptCheck.andThen fun p => .next (m + p.1, settleIme before p.2)

/-- `cpu_step()` (R358). -/
def cpuStep (s : State) : Result (Nat × State) :=
  s.executeOne.andThen fun p => finishCpuStep s.imePending p.1 p.2

/-- One clock-tick: the display, then the timer (R410, R411). -/
def tick (s : State) : State := s.lcdStep.timerStep

/-- `n` clock-ticks. -/
def ticks : Nat → State → State
  | 0, s => s
  | n + 1, s => ticks n s.tick

/-- The strobes of `n` clock-ticks, in order (10_state.md R46). -/
def ticksStrobes : Nat → State → List Strobe
  | 0, _ => []
  | n + 1, s => s.strobes ++ ticksStrobes n s.tick

/-- The external requests of this step (R357): Serial, then Joypad. -/
def raiseExternal (s : State) : State :=
  match s.irqIn with
  | [] => s
  | q :: rest =>
    let t := { s with irqIn := rest }
    let u := if q.serial then t.raise .serial else t
    if q.joypad then u.raise .joypad else u

/-- The peripherals' part of a machine step in which the CPU took `m` machine-cycles (R410). -/
def advance (m : Nat) (s : State) : State := raiseExternal (ticks (Config.ticksPerMCycle * m) s)

/-- `machine_step()` (R410). -/
def machineStep (s : State) : Result State := s.cpuStep.andThen fun p => .next (advance p.1 p.2)

/-- The strobes a machine step emits (10_state.md R46); none from a step that stops. -/
def stepStrobes (s : State) : List Strobe :=
  match s.cpuStep with
  | .next p => ticksStrobes (Config.ticksPerMCycle * p.1) p.2
  | .fault _ => []
  | .refused _ => []

/-- Bytes put into `Ext` from outside the machine, at ascending addresses modulo 65536 (log 9). -/
def placeBytes (s : State) (a : Word) (bytes : List Byte) : State :=
  match bytes with
  | [] => s
  | b :: rest => placeBytes { s with ext := { s.ext with mem := s.ext.mem.write a.toNat b } } (a + 1#16) rest

/-- The machine with a table word's instruction as the next one it fetches from `Ext` (log 9). -/
def placeInstr (s : State) (nbits w : Nat) : State :=
  State.placeBytes { s with halted := false, hq := none } s.pc (tableWordBytes nbits w)

end State

end Sys2Proof.Machine
end

