-- ==== Sys2Proof/Machine/Step.lean ====
section
/-! DEFINITION. The step of the machine: `machine_step` of 60_exceptions.md R410. -/
namespace Sys2Proof.Machine

/-- One machine step. -/
def step (s : State) : Host.Outcome State Fault Refusal := s.machineStep

/-- The state whose next step fetches and runs the instruction of a table word (log 9). It holds where `Ext` answers
the pc and the two addresses after it from its stored bytes, not locked out, and OPCODE_MAP and IMM_ORDER are the default ones, as
at reset. -/
def State.withFetchWord (s : State) (nbits w : Nat) : State := s.placeInstr nbits w

end Sys2Proof.Machine
end

