-- ==== Sys2Proof/Safety.lean ====
section
/-! DEFINITION. What a safe step is, the invariant of the machine (the bounds 10_state.md gives its state), and the terms the
statements are written in: what lies at an address, and what an instruction leaves alone. -/
namespace Sys2Proof.Machine

/-- The step neither faults nor is refused. -/
def State.safe (s : State) : Prop := ∃ t, step s = .next t

/-- The accumulators stay in their ranges (R34, R35). -/
abbrev Timer.inRange (t : Timer) : Prop := t.divAcc < 256 ∧ t.timaAcc < 1024

/-- `dot` and `LY` stay in the ranges of the mode (R39, R40). -/
abbrev Lcd.inRange (l : Lcd) : Prop :=
  (l.mode = .oamSearch → l.dot < 80 ∧ l.ly < 144) ∧
  (l.mode = .pixelTransfer → 80 ≤ l.dot ∧ l.dot < 252 ∧ l.ly < 144) ∧
  (l.mode = .hblank → 252 ≤ l.dot ∧ l.dot < 456 ∧ l.ly < 144) ∧
  (l.mode = .vblank → l.dot < 456 ∧ 144 ≤ l.ly ∧ l.ly < 154)

/-- With EI_DELAY = 0: no delayed enable is pending, and a full halt-bug queue means a CPU that runs with IME clear (R363). -/
abbrev State.queueInRange (s : State) : Prop :=
  s.params.eiDelay = false → s.imePending = false ∧ (s.hq ≠ none → s.ime = false ∧ s.halted = false)

/-- The invariant. -/
abbrev State.Inv (s : State) : Prop :=
  s.ext.mem.wf = true ∧ s.timer.inRange ∧ s.lcd.inRange ∧ s.queueInRange

/-- The addresses of the block registers (20_memory.md R63); every other address is `Ext`'s unless it is locked out. -/
def blockRegisters : List Word :=
  [0xFF04#16, 0xFF05#16, 0xFF06#16, 0xFF07#16, 0xFF0F#16, 0xFF40#16, 0xFF41#16, 0xFF44#16, 0xFF45#16, 0xFFFF#16]

/-- A read of the address is answered by the chip of `Ext`, and so may change its cells. -/
abbrev Ext.chipAnswers (x : Ext) (a : Word) : Prop := x.readKind a = .chip ∧ a ∉ blockRegisters

/-- A store to the address is taken by the chip of `Ext`, and so may change its cells. -/
abbrev Ext.chipTakes (x : Ext) (a : Word) : Prop := x.writeKind a = .chip ∧ a ∉ blockRegisters

/-- No address is the chip's, as with the spec's default `Ext`. -/
abbrev Ext.noChip (x : Ext) : Prop := ∀ w ∈ x.windows, w.onRead ≠ .chip ∧ w.onWrite ≠ .chip

/-- The state after bus reads of these addresses, in order. -/
def State.afterReads (s : State) : List Word → State
  | [] => s
  | a :: rest => (s.afterRead a).afterReads rest

/-- The next `n` addresses from `a` on, modulo 65536. -/
def addressesFrom (a : Word) : Nat → List Word
  | 0 => []
  | n + 1 => a :: addressesFrom (a + 1#16) n

/-- Bus reads from address `a` on give these bytes, one after the other, and raise nothing. -/
def State.holdsAt (s : State) (a : Word) : List Byte → Prop
  | [] => True
  | b :: rest => s.canRead a = true ∧ s.busRead a = b ∧ (s.afterRead a).holdsAt (a + 1#16) rest

/-- An address where a store is kept and read back: `Ext` owns it and answers it with stored bytes. -/
abbrev State.plainRam (s : State) (a : Word) : Prop :=
  s.owner a = .ext ∧ s.ext.readKind a = .memory ∧ s.ext.writeKind a = .memory

/-- The address a form reads its operand from, if its operand is `(HL)`. -/
def State.operandReads (s : State) (o : Operand8) : List Word := if o = .mHL then [s.hl] else []

/-- The request is pending and enabled (60_exceptions.md R360). -/
def State.wants (s : State) (k : Irq) : Bool := s.ie.getLsbD k.index && s.ifl.getLsbD k.index

/-- The CPU's control state and the inputs are the same in both states. -/
def State.sameControl (s t : State) : Prop :=
  t.ime = s.ime ∧ t.imePending = s.imePending ∧ t.halted = s.halted ∧ t.hq = s.hq ∧ t.irqIn = s.irqIn ∧ t.params = s.params

/-- Everything behind the bus is the same in both states, and every address reads the same. -/
def State.sameMemory (s t : State) : Prop :=
  t.ie = s.ie ∧ t.ifl = s.ifl ∧ t.timer = s.timer ∧ t.lcd = s.lcd ∧ t.ext = s.ext ∧ ∀ a, t.busRead a = s.busRead a

/-- The registers other than the listed ones are the same in both states. -/
def State.sameRegsBut (s t : State) (rs : List Reg8) : Prop := ∀ r, r ∉ rs → t.getR8 r = s.getR8 r

/-- The ranges of the contention rules (20_memory.md R68, R69). -/
def contended (a : Word) : Prop := (0x8000 ≤ a.toNat ∧ a.toNat ≤ 0x9FFF) ∨ (0xFE00 ≤ a.toNat ∧ a.toNat ≤ 0xFE9F)

/-- Between the states these addresses are read, in order, and nothing is stored: a chip's cells apart, everything behind the
bus is the same, and every address the chip does not answer reads as before; the chip is as those reads leave it, and the
same as before where it answers none of them. -/
def State.readsOnly (s t : State) (as : List Word) : Prop :=
  t.ie = s.ie ∧ t.ifl = s.ifl ∧ t.timer = s.timer ∧ t.lcd = s.lcd ∧
  t.ext = { s.ext with chip := { s.ext.chip with cells := t.ext.chip.cells } } ∧
  (∀ a, ¬ s.ext.chipAnswers a → t.busRead a = s.busRead a) ∧
  t.ext = (s.afterReads as).ext ∧
  ((∀ a ∈ as, ¬ s.ext.chipAnswers a) → s.sameMemory t)

/-- Behind the bus, only what the listed addresses name has changed: every stored byte of `Ext` at another address and every
block register at another address is the same, and so is what no address names; a chip's cells are the same where it takes
none of the addresses. The last clause is the same said by bus reads: every other address reads as before, but for the reads
that the spec makes depend on something else that is stored to: a store to LCDC can switch the lockout of the contended
ranges, a store to LYC can change STAT bit 2, and a store that the chip takes can change what it answers. -/
def State.storesOnly (s t : State) (as : List Word) : Prop :=
  (∀ a, a ∉ as → t.ext.mem.read a.toNat = s.ext.mem.read a.toNat) ∧
  t.ext = { s.ext with mem := t.ext.mem, chip := { s.ext.chip with cells := t.ext.chip.cells } } ∧
  ((∀ a ∈ as, ¬ s.ext.chipTakes a) → t.ext.chip = s.ext.chip) ∧
  (0xFF04#16 ∉ as → t.timer.div = s.timer.div ∧ t.timer.divAcc = s.timer.divAcc) ∧
  (0xFF05#16 ∉ as → t.timer.tima = s.timer.tima) ∧
  (0xFF06#16 ∉ as → t.timer.tma = s.timer.tma) ∧
  (0xFF07#16 ∉ as → t.timer.tac = s.timer.tac) ∧ t.timer.timaAcc = s.timer.timaAcc ∧
  (0xFF0F#16 ∉ as → t.ifl = s.ifl) ∧
  (0xFF40#16 ∉ as → t.lcd.lcdc = s.lcd.lcdc) ∧
  (0xFF41#16 ∉ as → t.lcd.en0 = s.lcd.en0 ∧ t.lcd.en1 = s.lcd.en1 ∧ t.lcd.en2 = s.lcd.en2 ∧ t.lcd.enL = s.lcd.enL) ∧
  (0xFF45#16 ∉ as → t.lcd.lyc = s.lcd.lyc) ∧
  (0xFFFF#16 ∉ as → t.ie = s.ie) ∧
  t.lcd.mode = s.lcd.mode ∧ t.lcd.dot = s.lcd.dot ∧ t.lcd.ly = s.lcd.ly ∧
  t.lcd.latch0 = s.lcd.latch0 ∧ t.lcd.latch1 = s.lcd.latch1 ∧ t.lcd.latch2 = s.lcd.latch2 ∧ t.lcd.latchL = s.lcd.latchL ∧
  t.lcd.frame = s.lcd.frame ∧ t.lcd.windowLine = s.lcd.windowLine ∧
  ∀ a, a ∉ as → ¬(0xFF40#16 ∈ as ∧ contended a) → ¬(0xFF45#16 ∈ as ∧ a = 0xFF41#16) →
    ¬(s.ext.chipAnswers a ∧ ∃ b ∈ as, s.ext.chipTakes b) → t.busRead a = s.busRead a

/-- What the display's clock shows: the clock-ticks since the frame began (60_exceptions.md R395). -/
def Lcd.clock (l : Lcd) : Nat := l.ly * Config.dotsPerLine + l.dot

end Sys2Proof.Machine
end

