-- ==== Sys2Proof/Certificates/Slice0/Obligations.lean ====
section
/-! DEFINITION. The statements for the provers. `exec i s` runs an instruction whose bytes are fetched already, so `s.pc` is
past them (45_control_flow.md R300; log 7). `canRead`, `canWrite` say that a bus access raises nothing, `busRead` is what a read
then gives and `afterRead` the state after it (the state itself where no chip of `Ext` answers it; 20_memory.md R64, log 2),
`busWrite` the state after a store. A flag written `fZ` in the spec is `flags.z`. -/

open Sys2Proof Sys2Proof.Machine

/-! ## Encoding -/

/-- Words written out from the formats and fields of 30_encoding.md R102 to R114 decode to their instructions; a two-byte row
of the table stands with its first byte in the high bits (the model's reading of the table, log 8). The opcode map is the spec's
own choice (D3; log 12), and so is the order of the two immediate bytes, low byte first (D2, R110; log 17). -/
def Obligations.DecodeWrittenWords : Prop :=
  decodeTableWord 8 0b01_111_000 = some .ld_A_B ∧
  decodeTableWord 8 0b00_110_110 = some (.ld_mHL_d8 0x00#8) ∧
  decodeTableWord 8 0b10_001_110 = some .adc_A_mHL ∧
  decodeTableWord 8 0b00_01_1_001 = some .add_HL_DE ∧
  decodeTableWord 8 0b11_11_0_101 = some .push_AF ∧
  decodeTableWord 8 0b11_101_111 = some .rst_28 ∧
  decodeTableWord 8 0b01_110_110 = some .halt ∧
  decodeTableWord 16 0b11001011_00_110_111 = some .swap_A ∧
  decodeTableWord 16 0b11001011_01_111_100 = some .bit_7_H ∧
  decodeTableWord 16 0b11001011_11_111_110 = some .set_7_mHL ∧
  decode [0x21#8, 0x34#8, 0x12#8] = .ok (.ld_HL_d16 0x1234#16, []) ∧
  decode [0x18#8, 0xFB#8, 0x76#8] = .ok (.jr_e8 0xFB#8, [0x76#8])

/-- Decoding an encoded instruction gives it back, whatever its operands and whatever follows it. -/
def Obligations.DecodeEncodeAgree : Prop :=
  ∀ (i : Instr) (rest : List Byte), decode (encode i ++ rest) = .ok (i, rest)

/-- The other direction: whatever bytes decode to an instruction are its encoding, so no two byte strings mean one
instruction and no bit is ignored. -/
def Obligations.EncodeDecodeAgree : Prop :=
  ∀ (bytes : List Byte) (i : Instr) (rest : List Byte), decode bytes = .ok (i, rest) → bytes = encode i ++ rest

/-- Decode is total on bytes (R118). Every first byte with two bytes after it yields an instruction and consumes its operand
bytes alone (R121, whose lengths are the spec's general knowledge, D3, log 12; that an undefined value consumes none is log
25); the result is an undefined value exactly for the eleven first bytes of R115, so every second byte after 0xCB is an
instruction; only a list of fewer than three bytes can be too short. -/
def Obligations.DecodeIsTotal : Prop :=
  (∀ (op b1 b2 : Byte) (rest : List Byte),
    ∃ i, decode (op :: b1 :: b2 :: rest) = .ok (i, (b1 :: b2 :: rest).drop (operandCount op)) ∧
      (i.wellFormed = false ↔
        op ∈ [0xD3#8, 0xDB#8, 0xDD#8, 0xE3#8, 0xE4#8, 0xEB#8, 0xEC#8, 0xED#8, 0xF4#8, 0xFC#8, 0xFD#8])) ∧
  ∀ (bytes : List Byte) (e : DecodeError), decode bytes = .error e → bytes.length < 3

/-- R115: each of the eleven byte values is decoded as undefined, its execution raises UndefinedOpcode with the byte, and so
does the machine step that fetches it. -/
def Obligations.UndefinedOpcodesFault : Prop :=
  ∀ (s : State), ∀ p ∈ ([(.undefined_D3, 0xD3#8), (.undefined_DB, 0xDB#8), (.undefined_DD, 0xDD#8), (.undefined_E3, 0xE3#8),
      (.undefined_E4, 0xE4#8), (.undefined_EB, 0xEB#8), (.undefined_EC, 0xEC#8), (.undefined_ED, 0xED#8),
      (.undefined_F4, 0xF4#8), (.undefined_FC, 0xFC#8), (.undefined_FD, 0xFD#8)] : List (Instr × Byte)),
    decode [p.2] = .ok (p.1, []) ∧ exec p.1 s = .fault (.undefinedOpcode p.2) ∧
    (s.halted = false → s.hq = none → s.canRead s.pc = true → s.busRead s.pc = p.2 →
      step s = .fault (.undefinedOpcode p.2))

/-! ## The step -/

/-- Where the bytes at the pc are an instruction's encoding (in the opcode map and byte order that are the model's arguments, D3,
D2, log 1; by default they are the ones of the spec), the step is that instruction's `exec` at the state after those
reads with the pc past it, then the interrupt check, then the peripherals' ticks for the machine-cycles of both. Where the
first of those bytes that is refused is byte `k`, the opcode byte (`k = 0`) or a later one, the step is the fault of R67 at
its address (R352). Opcode 0x10 has its operand byte fetched under STOP_BEHAVIOUR = nop2 alone (R332, R358): under the other two
(D8) the step stops on the opcode byte, whatever stands after it. That the bytes come before the effect is log 7. In every map
the prefix and the eleven undefined values are the document's. -/
def Obligations.StepRunsDecoded : Prop :=
  (∀ (s : State) (i : Instr) (bytes : List Byte), s.halted = false → s.hq = none →
    s.params.standardBytes bytes = encode i → s.holdsAt s.pc bytes →
    (i.opcode.1 = 0x10#8 → s.params.stopBehaviour = .nop2) →
    step s =
      Result.andThen (exec i ((s.afterReads (addressesFrom s.pc i.length)).setPc (s.pc + BitVec.ofNat 16 i.length))) fun t =>
      Result.andThen t.interruptCheck fun p =>
      .next (State.advance (cycles s.params.cycleTable i (taken i s.flags) + p.1) (State.settleIme s.imePending p.2))) ∧
  (∀ (s : State) (i : Instr) (bytes : List Byte) (k : Nat), s.halted = false → s.hq = none →
    s.params.standardBytes bytes = encode i → k < i.length → s.holdsAt s.pc (bytes.take k) →
    State.canRead (s.afterReads (addressesFrom s.pc k)) (s.pc + BitVec.ofNat 16 k) = false →
    (i.opcode.1 = 0x10#8 → k ≠ 0 → s.params.stopBehaviour = .nop2) →
    step s = .fault (.addressingError (s.pc + BitVec.ofNat 16 k))) ∧
  (∀ (s : State) (b : Byte), s.halted = false → s.hq = none → s.params.opcodeMap.firstByte b = 0x10#8 →
    s.holdsAt s.pc [b] →
    (s.params.stopBehaviour = .refuse → step s = .refused .stop) ∧
    (s.params.stopBehaviour = .fault → step s = .fault (.undefinedOpcode 0x10#8))) ∧
  (∀ (p : Params) (bytes : List Byte), p.opcodeMap = .standard → p.immOrder = .lowFirst → p.standardBytes bytes = bytes) ∧
  (∀ (p : Params) (op b1 b2 : Byte), op ∈ threeByteOpcodes → p.opcodeMap = .standard → p.immOrder = .highFirst →
    p.standardBytes [op, b1, b2] = [op, b2, b1]) ∧
  ∀ (p : Params), ∀ b ∈ [0xCB#8, 0xD3#8, 0xDB#8, 0xDD#8, 0xE3#8, 0xE4#8, 0xEB#8, 0xEC#8, 0xED#8, 0xF4#8, 0xFC#8, 0xFD#8],
    ∀ x : Byte, p.opcodeMap.firstByte x = b ↔ x = b

/-- The halt-bug queue (30_encoding.md R101; that the step advances the pc by length - 1 is the spec's inference there): a
queued byte is the opcode byte, it is taken without a bus access and without moving the pc, and every later byte of the
instruction is read at the pc, where a refused one is the fault of R67. With an empty queue the opcode byte is read at the pc,
and a refused read is that fault. The queued byte is the byte in memory, read by the opcode map when it is taken (D3, log 1). A
queued 0x10 has no byte fetched but under STOP_BEHAVIOUR = nop2 (R332, R358; D8). -/
def Obligations.QueuedByteIsFetched : Prop :=
  (∀ (s : State) (b : Byte), s.hq = some b → s.fetchOpcode = .next (b, { s with hq := none })) ∧
  (∀ (s : State), s.hq = none → s.canRead s.pc = true →
    s.fetchOpcode = .next (s.busRead s.pc, (s.afterRead s.pc).setPc (s.pc + 1#16))) ∧
  (∀ (s : State), s.hq = none → s.canRead s.pc = false → s.fetchOpcode = .fault (.addressingError s.pc)) ∧
  (∀ (s : State) (i : Instr) (b : Byte) (tail : List Byte), s.halted = false → s.hq = some b →
    s.params.standardBytes (b :: tail) = encode i → s.holdsAt s.pc tail →
    (i.opcode.1 = 0x10#8 → s.params.stopBehaviour = .nop2) →
    step s =
      Result.andThen (exec i
        { s.afterReads (addressesFrom s.pc tail.length) with
          hq := none, pc := s.pc + BitVec.ofNat 16 tail.length }) fun t =>
      Result.andThen t.interruptCheck fun p =>
      .next (State.advance (cycles s.params.cycleTable i (taken i s.flags) + p.1) (State.settleIme s.imePending p.2))) ∧
  (∀ (s : State) (i : Instr) (b : Byte) (tail : List Byte) (k : Nat), s.halted = false → s.hq = some b →
    s.params.standardBytes (b :: tail) = encode i → k < tail.length → s.holdsAt s.pc (tail.take k) →
    State.canRead (s.afterReads (addressesFrom s.pc k)) (s.pc + BitVec.ofNat 16 k) = false →
    (i.opcode.1 = 0x10#8 → s.params.stopBehaviour = .nop2) →
    step s = .fault (.addressingError (s.pc + BitVec.ofNat 16 k))) ∧
  ∀ (s : State) (b : Byte), s.halted = false → s.hq = some b → s.params.opcodeMap.firstByte b = 0x10#8 →
    (s.params.stopBehaviour = .refuse → step s = .refused .stop) ∧
    (s.params.stopBehaviour = .fault → step s = .fault (.undefinedOpcode 0x10#8))

/-- A machine step is the CPU step, then 4 clock-ticks for each of its machine-cycles, each tick the display and then the
timer, then the external requests of this step (R410); a fault or refusal of the CPU step ends it. The external requests come
from a schedule (R357, the spec's own choice D26); that it is a list whose head is this step's entry, and that an empty list
asserts nothing, is the model's choice (log 4). -/
def Obligations.MachineStepOrder : Prop :=
  (∀ s : State, step s = s.cpuStep.andThen fun p => .next (State.raiseExternal ((fun u => u.lcdStep.timerStep)^[4 * p.1] p.2))) ∧
  (∀ s : State, s.irqIn = [] → s.raiseExternal = s) ∧
  ∀ (s : State) (q : ExtRequest) (rest : List ExtRequest), s.irqIn = q :: rest →
    s.raiseExternal =
      { s with
        ifl := s.ifl ||| (if q.serial then 0b01000#5 else 0#5) ||| (if q.joypad then 0b10000#5 else 0#5)
        irqIn := rest }

/-- R411: the order of display and timer inside a tick does not matter. -/
def Obligations.DisplayAndTimerCommute : Prop := ∀ s : State, s.lcdStep.timerStep = s.timerStep.lcdStep

/-! ## Reset and the invariant -/

/-- The CPU registers after reset (R48), for every value of the model's arguments. Which bits of F the four flags are is the
spec's own choice (D1; log 16), the argument FLAG_BITS, whose admissible values keep them apart in the high nibble (R22); with
the default one Z, H and C are set. -/
def Obligations.ResetCpuRegisters : Prop :=
  ∀ (io : ResetIO) (ext : Ext) (irqIn : List ExtRequest) (params : Params),
    ∀ s ∈ [State.resetWith io ext irqIn params, State.reset],
      s.pc = 0x0100#16 ∧ s.sp = 0xFFFE#16 ∧ s.regs.a = 0x01#8 ∧ s.bc = 0x0013#16 ∧ s.de = 0x00D8#16 ∧ s.hl = 0x014D#16 ∧
        (s.params.flagBits.wf = true → s.flags.toByte s.params.flagBits = 0xB0#8) ∧
        (s.params.flagBits = { z := 7, n := 6, h := 5, c := 4 } → s.flags = { z := true, n := false, h := true, c := true })

/-- The rest of the reset state: R49 to R52, whose values are the spec's own choice (D25; log 10), and the model's choices
for memory, inputs and arguments (log 3, 4, 6, 11); and the reset state meets the invariant. With every default of R6, `refuse`
among them, it is `State.specReset`, the same state but for the arguments. -/
def Obligations.ResetStateAndInvariant : Prop :=
  let s := State.reset
  s.ime = false ∧ s.imePending = false ∧ s.halted = false ∧ s.hq = none ∧ s.ie = 0x00#8 ∧ s.ifl = 0#5 ∧
  s.timer = { div := 0#8, divAcc := 0, tima := 0#8, tma := 0#8, timaAcc := 0, tac := 0#3 } ∧
  s.lcd.mode = .oamSearch ∧ s.lcd.dot = 0 ∧ s.lcd.ly = 0 ∧ s.lcd.lyc = 0#8 ∧ s.lcd.lcdc = 0#8 ∧
  s.lcd.en0 = false ∧ s.lcd.en1 = false ∧ s.lcd.en2 = false ∧ s.lcd.enL = false ∧ s.lcd.latch0 = false ∧
  s.lcd.latch1 = false ∧ s.lcd.latch2 = false ∧ s.lcd.latchL = false ∧ s.lcd.frame = 0 ∧ s.lcd.windowLine = 0 ∧
  s.ext = Ext.default ∧ s.irqIn = [] ∧ s.params = { stopBehaviour := .nop2 } ∧ s.Inv ∧
  State.specReset = { s with params := {} } ∧ ({} : Params).stopBehaviour = .refuse

/-- Every step keeps the invariant: memory in canonical form, the timer's accumulators, `dot` and `LY` in their ranges (R34,
R35, R39, R40), and with EI_DELAY = 0 a full halt-bug queue only in a CPU that runs with IME clear, so that a full queue and
a dispatch cannot meet (R363). -/
def Obligations.StepKeepsInvariant : Prop := ∀ s t : State, s.Inv → step s = .next t → t.Inv

/-- What no step changes: the model's arguments (R6), the windows of `Ext` and its chip's programs (log 2), every byte of `Ext`
at an address whose stores do not reach the stored bytes, so with the spec's default `Ext` the program image below 0x8000
(R66, D24), and the chip's cells where no window names the chip. The schedule of external requests loses its head: that requests come
from a schedule is R357 and the spec's own choice D26, and that it is a list consumed one entry a step is the model's choice
(log 4). -/
def Obligations.StepKeepsImageAndArguments : Prop :=
  ∀ s t : State, step s = .next t →
    t.params = s.params ∧ t.irqIn = s.irqIn.tail ∧
    t.ext = { s.ext with mem := t.ext.mem, chip := { s.ext.chip with cells := t.ext.chip.cells } } ∧
    (∀ a : Word, s.ext.writeKind a ≠ .memory → t.ext.mem.read a.toNat = s.ext.mem.read a.toNat) ∧
    (s.ext.windows = [] → ∀ a : Word, a.toNat < 0x8000 → t.ext.read a = s.ext.read a) ∧
    (s.ext.noChip → t.ext.chip = s.ext.chip)

/-! ## Register views -/

/-- R20, R22, R23: a register keeps what is written, apart from the others; a pair is its two halves, high register first;
`F` reads back what is written with the low nibble 0. The bit positions are the spec's own choice (D1; log 16), the argument
FLAG_BITS: each admissible value has the four flags apart in the high nibble, and the default one is Z, N, H, C downward. -/
def Obligations.RegisterViews : Prop :=
  (∀ (s : State) (r q : Reg8) (v : Byte), (s.setR8 r v).getR8 q = if q = r then v else s.getR8 q) ∧
  (∀ (s : State), s.bc = s.regs.b ++ s.regs.c ∧ s.de = s.regs.d ++ s.regs.e ∧ s.hl = s.regs.h ++ s.regs.l ∧
    s.af = s.regs.a ++ s.flags.toByte s.params.flagBits) ∧
  (∀ (s : State) (r : Reg16) (v : Word), (s.setR16 r v).getR16 r = v) ∧
  (∀ (s : State) (v : Word), (s.params.flagBits.wf = true → (s.setAF v).af = v &&& 0xFFF0#16) ∧
    (s.setAF v).regs.a = hiByte v) ∧
  (∀ (p : FlagBits) (f : Flags) (v : Byte), p.wf = true →
    (f.toByte p).getLsbD p.z = f.z ∧ (f.toByte p).getLsbD p.n = f.n ∧ (f.toByte p).getLsbD p.h = f.h ∧
    (f.toByte p).getLsbD p.c = f.c ∧ f.toByte p &&& 0x0F#8 = 0#8 ∧ Flags.ofByte p (f.toByte p) = f ∧
    (Flags.ofByte p v).toByte p = v &&& 0xF0#8) ∧
  ({} : FlagBits).wf = true ∧
  ∀ f : Flags, f.toByte {} = BitVec.ofBool f.z ++ BitVec.ofBool f.n ++ BitVec.ofBool f.h ++ BitVec.ofBool f.c ++ 0#4

/-! ## 8-bit loads -/

/-- R141, R142: a register receives the register or the byte and nothing else changes; a self-move changes nothing. -/
def Obligations.LoadRegister : Prop :=
  ∀ (s : State) (k r : Reg8) (v : Byte),
    exec (.ld8 k.op r.op) s = .next (s.setR8 k (s.getR8 r)) ∧
    exec (.ld8Imm k.op v) s = .next (s.setR8 k v) ∧
    exec (.ld8 k.op k.op) s = .next s

/-- R143, R144, R145: loads from and stores to the byte at `HL`. The address is the old `HL` also where the destination is a
half of it. A refused address is the fault of R67. -/
def Obligations.LoadAndStoreAtHL : Prop :=
  ∀ (s : State) (r : Reg8) (v : Byte),
    (s.canRead s.hl = true → exec (.ld8 r.op .mHL) s = .next ((s.afterRead s.hl).setR8 r (s.busRead s.hl))) ∧
    (s.canRead s.hl = false → exec (.ld8 r.op .mHL) s = .fault (.addressingError s.hl)) ∧
    (s.canWrite s.hl (s.getR8 r) = true → exec (.ld8 .mHL r.op) s = .next (s.busWrite s.hl (s.getR8 r))) ∧
    (s.canWrite s.hl (s.getR8 r) = false → exec (.ld8 .mHL r.op) s = .fault (.addressingError s.hl)) ∧
    (s.canWrite s.hl v = true → exec (.ld8Imm .mHL v) s = .next (s.busWrite s.hl v)) ∧
    (s.canWrite s.hl v = false → exec (.ld8Imm .mHL v) s = .fault (.addressingError s.hl))

/-- R146 to R155: `A` receives the byte at the instruction's address, or is stored there. -/
def Obligations.LoadAndStoreAccumulator : Prop :=
  ∀ (s : State) (a : Word) (n : Byte),
    ∀ p ∈ ([(.ld_A_mBC, .ld_mBC_A, s.bc), (.ld_A_mDE, .ld_mDE_A, s.de), (.ld_A_ma16 a, .ld_ma16_A a, a),
      (.ldh_A_mC, .ldh_mC_A, 0xFF00#16 + s.regs.c.setWidth 16),
      (.ldh_A_ma8 n, .ldh_ma8_A n, 0xFF00#16 + n.setWidth 16)] : List (Instr × Instr × Word)),
    (s.canRead p.2.2 = true → exec p.1 s = .next ((s.afterRead p.2.2).setR8 .a (s.busRead p.2.2))) ∧
    (s.canRead p.2.2 = false → exec p.1 s = .fault (.addressingError p.2.2)) ∧
    (s.canWrite p.2.2 s.regs.a = true → exec p.2.1 s = .next (s.busWrite p.2.2 s.regs.a)) ∧
    (s.canWrite p.2.2 s.regs.a = false → exec p.2.1 s = .fault (.addressingError p.2.2))

/-- R156 to R159 (the adjustment of `HL` is the spec's own choice, D3): the byte moves at the old `HL`, then `HL` moves by one
modulo 65536. -/
def Obligations.LoadAndStoreWithHLStep : Prop :=
  ∀ (s : State),
    (s.canRead s.hl = true →
      exec .ld_A_mHLi s = .next (((s.afterRead s.hl).setR8 .a (s.busRead s.hl)).setHL (s.hl + 1#16)) ∧
      exec .ld_A_mHLd s = .next (((s.afterRead s.hl).setR8 .a (s.busRead s.hl)).setHL (s.hl - 1#16))) ∧
    (s.canRead s.hl = false →
      exec .ld_A_mHLi s = .fault (.addressingError s.hl) ∧ exec .ld_A_mHLd s = .fault (.addressingError s.hl)) ∧
    (s.canWrite s.hl s.regs.a = true →
      exec .ld_mHLi_A s = .next ((s.busWrite s.hl s.regs.a).setHL (s.hl + 1#16)) ∧
      exec .ld_mHLd_A s = .next ((s.busWrite s.hl s.regs.a).setHL (s.hl - 1#16))) ∧
    (s.canWrite s.hl s.regs.a = false →
      exec .ld_mHLi_A s = .fault (.addressingError s.hl) ∧ exec .ld_mHLd_A s = .fault (.addressingError s.hl))

/-! ## 16-bit loads and the stack -/

/-- R181, R182, R183: pairs and `SP` receive a word; `LD (a16),SP` stores a byte at `a16` and then one at the next address (the
order of the two stores is the spec's own choice, D31): with the default IMM_ORDER the low byte and then the high byte (D2;
log 17; that the other IMM_ORDER exchanges them is log 1). -/
def Obligations.LoadWord : Prop :=
  ∀ (s : State) (r : Reg16) (w a : Word),
    let order : Byte × Byte := match s.params.immOrder with
      | .lowFirst => (loByte s.sp, hiByte s.sp)
      | .highFirst => (hiByte s.sp, loByte s.sp)
    let first : State := s.busWrite a order.1
    exec (.ld16Imm r w) s = .next (s.setR16 r w) ∧
    exec .ld_SP_HL s = .next { s with sp := s.hl } ∧
    (s.canWrite a order.1 = true → first.canWrite (a + 1#16) order.2 = true →
      exec (.ld_ma16_SP a) s = .next (first.busWrite (a + 1#16) order.2)) ∧
    (s.canWrite a order.1 = false → exec (.ld_ma16_SP a) s = .fault (.addressingError a)) ∧
    (s.canWrite a order.1 = true → first.canWrite (a + 1#16) order.2 = false →
      exec (.ld_ma16_SP a) s = .fault (.addressingError (a + 1#16)))

/-- R184 to R186: PUSH stores the high byte at `SP - 1` and then the low byte at `SP - 2`; POP reads the low byte at `SP` and
the high byte at `SP + 1`; `SP` moves by 2 modulo 65536 (direction and pop order are the spec's own choice, D31). -/
def Obligations.PushAndPop : Prop :=
  ∀ (s : State) (q : Stk16),
    let first : State := s.busWrite (s.sp - 1#16) (hiByte (s.getStk q))
    (s.canWrite (s.sp - 1#16) (hiByte (s.getStk q)) = true → first.canWrite (s.sp - 2#16) (loByte (s.getStk q)) = true →
      exec (.pushOf q) s =
        .next ((first.busWrite (s.sp - 2#16) (loByte (s.getStk q))).setSp (s.sp - 2#16))) ∧
    (s.canWrite (s.sp - 1#16) (hiByte (s.getStk q)) = false →
      exec (.pushOf q) s = .fault (.addressingError (s.sp - 1#16))) ∧
    (s.canWrite (s.sp - 1#16) (hiByte (s.getStk q)) = true → first.canWrite (s.sp - 2#16) (loByte (s.getStk q)) = false →
      exec (.pushOf q) s = .fault (.addressingError (s.sp - 2#16))) ∧
    (s.canRead s.sp = true → (s.afterRead s.sp).canRead (s.sp + 1#16) = true →
      exec (.popOf q) s =
        .next (State.setStk ((s.afterReads [s.sp, s.sp + 1#16]).setSp (s.sp + 2#16)) q
          ((s.afterRead s.sp).busRead (s.sp + 1#16) ++ s.busRead s.sp))) ∧
    (s.canRead s.sp = false → exec (.popOf q) s = .fault (.addressingError s.sp)) ∧
    (s.canRead s.sp = true → (s.afterRead s.sp).canRead (s.sp + 1#16) = false →
      exec (.popOf q) s = .fault (.addressingError (s.sp + 1#16)))

/-- Where the stack is plain memory, a POP after a PUSH gives the pushed value (with the low nibble cleared where `AF` is
popped, R22, for the admissible FLAG_BITS) and `SP` as before, and no other register changes. That the stack grows downward, so
that the two bytes lie at `SP - 1` and `SP - 2`, and that POP reads them back in the inverse order is the spec's own choice
(D31; log 17). -/
def Obligations.PopUndoesPush : Prop :=
  ∀ (s : State) (q q' : Stk16), s.ext.mem.wf = true → s.plainRam (s.sp - 1#16) → s.plainRam (s.sp - 2#16) →
    (q' = .af → s.params.flagBits.wf = true) →
    ∃ t u, exec (.pushOf q) s = .next t ∧ exec (.popOf q') t = .next u ∧
      u.getStk q' = (if q' = .af then s.getStk q &&& 0xFFF0#16 else s.getStk q) ∧ u.sp = s.sp ∧ u.pc = s.pc ∧
      ∀ q'' ≠ q', u.getStk q'' = s.getStk q''

/-! ## 8-bit arithmetic and logic -/

/-- R201, R204, R205: ADD and ADC in their three source forms: the sum modulo 256, Z from the result, N clear, H the carry
out of bit 3, C the carry out of bit 7; ADC adds the old C. -/
def Obligations.AddWithAndWithoutCarry : Prop :=
  ∀ (s : State) (v : Byte),
    let sum (cin : Nat) (u : State) : State → Prop := fun t =>
      t = { u with
            regs := { s.regs with a := BitVec.ofNat 8 ((s.regs.a.toNat + v.toNat + cin) % 256) }
            flags :=
              { z := decide ((s.regs.a.toNat + v.toNat + cin) % 256 = 0)
                n := false
                h := decide (s.regs.a.toNat % 16 + v.toNat % 16 + cin > 0x0F)
                c := decide (s.regs.a.toNat + v.toNat + cin > 0xFF) } }
    ∀ p ∈ [(AluOp.add, 0), (AluOp.adc, if s.flags.c then 1 else 0)],
      (∃ t, exec (.aluImm p.1 v) s = .next t ∧ sum p.2 s t) ∧
      (∀ r, s.getR8 r = v → ∃ t, exec (.aluOf p.1 r.op) s = .next t ∧ sum p.2 s t) ∧
      (s.canRead s.hl = true → s.busRead s.hl = v →
        ∃ t, exec (.aluOf p.1 .mHL) s = .next t ∧ sum p.2 (s.afterRead s.hl) t) ∧
      (s.canRead s.hl = false → exec (.aluOf p.1 .mHL) s = .fault (.addressingError s.hl))

/-- R202, R206, R207, R211 (the zero flag, and that CP leaves `A`, are the spec's own choice, D12): the difference modulo
256, N set, H the borrow into bit 4, C the unsigned borrow, over unbounded integers; SBC subtracts the old C; CP writes the
flags of SUB and not `A`. -/
def Obligations.SubtractAndCompare : Prop :=
  ∀ (s : State) (v : Byte),
    let diff (cin : Nat) (keep : Bool) (u : State) : State → Prop := fun t =>
      t = { u with
            regs := { s.regs with
              a := if keep then s.regs.a else BitVec.ofInt 8 ((s.regs.a.toNat : Int) - v.toNat - cin) }
            flags :=
              { z := decide (((s.regs.a.toNat : Int) - v.toNat - cin) % 256 = 0)
                n := true
                h := decide (s.regs.a.toNat % 16 < v.toNat % 16 + cin)
                c := decide (s.regs.a.toNat < v.toNat + cin) } }
    ∀ p ∈ [(AluOp.sub, 0, false), (AluOp.sbc, (if s.flags.c then 1 else 0), false), (AluOp.cp, 0, true)],
      (∃ t, exec (.aluImm p.1 v) s = .next t ∧ diff p.2.1 p.2.2 s t) ∧
      (∀ r, s.getR8 r = v → ∃ t, exec (.aluOf p.1 r.op) s = .next t ∧ diff p.2.1 p.2.2 s t) ∧
      (s.canRead s.hl = true → s.busRead s.hl = v →
        ∃ t, exec (.aluOf p.1 .mHL) s = .next t ∧ diff p.2.1 p.2.2 (s.afterRead s.hl) t) ∧
      (s.canRead s.hl = false → exec (.aluOf p.1 .mHL) s = .fault (.addressingError s.hl))

/-- R208, R209, R210 (the zero flag is the spec's own choice, D12): the bitwise operation, Z from the result, N and C clear, H
set by AND alone; and R217, R218, R219 (the spec's own choice, D13): CPL, SCF and CCF. -/
def Obligations.BitwiseLogic : Prop :=
  ∀ (s : State) (v : Byte),
    exec .cpl s =
      .next { s with regs := { s.regs with a := s.regs.a ^^^ 0xFF#8 }, flags := { s.flags with n := true, h := true } } ∧
    exec .scf s = .next { s with flags := { s.flags with n := false, h := false, c := true } } ∧
    exec .ccf s = .next { s with flags := { s.flags with n := false, h := false, c := !s.flags.c } } ∧
    ∀ p ∈ [(AluOp.and, s.regs.a &&& v, true), (AluOp.xor, s.regs.a ^^^ v, false), (AluOp.or, s.regs.a ||| v, false)],
      let t (u : State) : State :=
        { u with
          regs := { s.regs with a := p.2.1 }
          flags := { z := p.2.1 == 0#8, n := false, h := p.2.2, c := false } }
      exec (.aluImm p.1 v) s = .next (t s) ∧
      (∀ r, s.getR8 r = v → exec (.aluOf p.1 r.op) s = .next (t s)) ∧
      (s.canRead s.hl = true → s.busRead s.hl = v → exec (.aluOf p.1 .mHL) s = .next (t (s.afterRead s.hl))) ∧
      (s.canRead s.hl = false → exec (.aluOf p.1 .mHL) s = .fault (.addressingError s.hl))

/-- R212, R213: INC adds one modulo 256; Z from the result, N clear, H set where the old low nibble was 0xF, C not touched. At
`HL` the read comes before the write. -/
def Obligations.IncrementByte : Prop :=
  ∀ (s : State),
    let flags (v : Byte) : Flags := { z := v == 0xFF#8, n := false, h := decide (v.toNat % 16 = 0xF), c := s.flags.c }
    (∀ r, exec (.inc8 r.op) s = .next ((s.setR8 r (s.getR8 r + 1#8)).setFlags (flags (s.getR8 r)))) ∧
    let read : State := s.afterRead s.hl
    (s.canRead s.hl = true → read.canWrite s.hl (s.busRead s.hl + 1#8) = true →
      exec (.inc8 .mHL) s =
        .next (State.setFlags (read.busWrite s.hl (s.busRead s.hl + 1#8)) (flags (s.busRead s.hl)))) ∧
    (s.canRead s.hl = false ∨ read.canWrite s.hl (s.busRead s.hl + 1#8) = false →
      exec (.inc8 .mHL) s = .fault (.addressingError s.hl))

/-- R214, R215 (the zero flag of the subtract group is the spec's own choice, D12): DEC subtracts one modulo 256; N set, H set
where the old low nibble was 0, C not touched. -/
def Obligations.DecrementByte : Prop :=
  ∀ (s : State),
    let flags (v : Byte) : Flags := { z := v == 0x01#8, n := true, h := decide (v.toNat % 16 = 0), c := s.flags.c }
    (∀ r, exec (.dec8 r.op) s = .next ((s.setR8 r (s.getR8 r - 1#8)).setFlags (flags (s.getR8 r)))) ∧
    let read : State := s.afterRead s.hl
    (s.canRead s.hl = true → read.canWrite s.hl (s.busRead s.hl - 1#8) = true →
      exec (.dec8 .mHL) s =
        .next (State.setFlags (read.busWrite s.hl (s.busRead s.hl - 1#8)) (flags (s.busRead s.hl)))) ∧
    (s.canRead s.hl = false ∨ read.canWrite s.hl (s.busRead s.hl - 1#8) = false →
      exec (.dec8 .mHL) s = .fault (.addressingError s.hl))

/-- R216 (which value the tests read is the spec's own choice, D11): DAA adds or subtracts 0x06, 0x60, both or nothing; and
after ADD or ADC of two-digit decimal numbers it leaves the decimal digits of their sum, with C set from 100 on. -/
def Obligations.DecimalAdjust : Prop :=
  (∀ (s : State),
    let low : Bool := s.flags.h || (!s.flags.n && decide (s.regs.a.toNat % 16 > 9))
    let high : Bool := s.flags.c || (!s.flags.n && decide (s.regs.a.toNat > 0x99))
    let adj : Byte := BitVec.ofNat 8 ((if low then 0x06 else 0) + (if high then 0x60 else 0))
    let res : Byte := if s.flags.n then s.regs.a - adj else s.regs.a + adj
    exec .daa s =
      .next { s with
        regs := { s.regs with a := res }
        flags := { z := res == 0#8, n := s.flags.n, h := false, c := high } }) ∧
  ∀ (s : State) (x y : Nat), x < 100 → y < 100 →
    let bcd (n : Nat) : Byte := BitVec.ofNat 8 (n / 10 * 16 + n % 10)
    let total : Nat := x + y + if s.flags.c then 1 else 0
    s.regs.a = bcd x →
    ∃ t u, exec (.adc_A_d8 (bcd y)) s = .next t ∧ exec .daa t = .next u ∧ u.regs.a = bcd (total % 100) ∧
      u.flags.c = decide (100 ≤ total)

/-! ## 16-bit arithmetic -/

/-- R241, R242, R243 (N after ADD HL is the spec's own choice D10, with its two argument values; that INC and DEC of a pair
write no flag is from general knowledge): H and C of ADD HL are the carries out of bits 11 and 15, Z is left. -/
def Obligations.WordArithmetic : Prop :=
  ∀ (s : State) (r : Reg16),
    exec (.addHL r) s =
      .next ((s.setHL (BitVec.ofNat 16 ((s.hl.toNat + (s.getR16 r).toNat) % 65536))).setFlags
        { z := s.flags.z
          n := if s.params.addHlClearsN then false else s.flags.n
          h := decide (s.hl.toNat % 4096 + (s.getR16 r).toNat % 4096 > 0x0FFF)
          c := decide (s.hl.toNat + (s.getR16 r).toNat > 0xFFFF) }) ∧
    exec (.inc16 r) s = .next (s.setR16 r (s.getR16 r + 1#16)) ∧
    exec (.dec16 r) s = .next (s.setR16 r (s.getR16 r - 1#16))

/-- R244, R245: `SP` or `HL` receives `SP` plus the sign-extended byte; Z and N clear, H and C from XOR-ing `SP`, the
immediate and the sum, masking bits 4 and 8. -/
def Obligations.AddSignedToSP : Prop :=
  ∀ (s : State) (e : Byte),
    let e16 : Word := BitVec.ofInt 16 e.toInt
    let res : Word := s.sp + e16
    let f : Flags :=
      { z := false, n := false, h := (s.sp ^^^ e16 ^^^ res).getLsbD 4, c := (s.sp ^^^ e16 ^^^ res).getLsbD 8 }
    exec (.add_SP_e8 e) s = .next ((s.setSp res).setFlags f) ∧ exec (.ld_HL_SPe8 e) s = .next ((s.setHL res).setFlags f)

/-- The spec's inference in R246: whatever the sign of the displacement, H and C are the carries out of bits 3 and 7 of the
unsigned addition of the displacement byte to the low byte of `SP`. -/
def Obligations.SignedAddCarriesAreUnsigned : Prop :=
  ∀ (s t : State) (e : Byte), exec (.add_SP_e8 e) s = .next t ∨ exec (.ld_HL_SPe8 e) s = .next t →
    t.flags.h = decide (s.sp.toNat % 16 + e.toNat % 16 > 0x0F) ∧ t.flags.c = decide (s.sp.toNat % 256 + e.toNat > 0xFF)

/-! ## Rotates, shifts and bits -/

/-- R261 to R273 (what each does to the bits, and Z of the 0xCB forms, are the spec's own choice, D12): the eight functions on
a register and at `HL`, with Z from the result, N and H clear and C the bit shifted out; and the accumulator short forms, the
same with Z clear. -/
def Obligations.RotatesAndShifts : Prop :=
  ∀ (s : State) (k : RotOp),
    let top (v : Byte) : Nat := v.toNat / 128
    let low (v : Byte) : Nat := v.toNat % 2
    let cin : Nat := if s.flags.c then 1 else 0
    let res (v : Byte) : Byte := BitVec.ofNat 8 <| match k with
      | .rlc => v.toNat % 128 * 2 + top v
      | .rrc => low v * 128 + v.toNat / 2
      | .rl => v.toNat % 128 * 2 + cin
      | .rr => cin * 128 + v.toNat / 2
      | .sla => v.toNat % 128 * 2
      | .sra => top v * 128 + v.toNat / 2
      | .swap => v.toNat % 16 * 16 + v.toNat / 16
      | .srl => v.toNat / 2
    let out (v : Byte) : Nat := match k with
      | .rlc | .rl | .sla => top v
      | .rrc | .rr | .sra | .srl => low v
      | .swap => 0
    let flags (v : Byte) : Flags := { z := res v == 0#8, n := false, h := false, c := out v == 1 }
    (∀ r, exec (.rotOf k r.op) s = .next ((s.setR8 r (res (s.getR8 r))).setFlags (flags (s.getR8 r)))) ∧
    (s.canRead s.hl = true → (s.afterRead s.hl).canWrite s.hl (res (s.busRead s.hl)) = true →
      exec (.rotOf k .mHL) s =
        .next (State.setFlags ((s.afterRead s.hl).busWrite s.hl (res (s.busRead s.hl))) (flags (s.busRead s.hl)))) ∧
    (s.canRead s.hl = false ∨ (s.afterRead s.hl).canWrite s.hl (res (s.busRead s.hl)) = false →
      exec (.rotOf k .mHL) s = .fault (.addressingError s.hl)) ∧
    ∀ p ∈ [(RotOp.rlc, Instr.rlca), (.rrc, .rrca), (.rl, .rla), (.rr, .rra)], p.1 = k →
      exec p.2 s = .next ((s.setR8 .a (res s.regs.a)).setFlags { flags s.regs.a with z := false })

/-- R274, R275, R276: BIT sets Z where the bit is 0, clears N, sets H, leaves C and writes no operand; RES and SET clear and
set the one bit and no flag. -/
def Obligations.BitTestResetSet : Prop :=
  ∀ (s : State) (b : BitNum),
    let flags (v : Byte) : Flags := { z := !v.getLsbD (bitIndex b), n := false, h := true, c := s.flags.c }
    (∀ r, exec (.bitOf b r.op) s = .next (s.setFlags (flags (s.getR8 r)))) ∧
    (s.canRead s.hl = true →
      exec (.bitOf b .mHL) s = .next ((s.afterRead s.hl).setFlags (flags (s.busRead s.hl)))) ∧
    (s.canRead s.hl = false → exec (.bitOf b .mHL) s = .fault (.addressingError s.hl)) ∧
    ∀ p ∈ [(Instr.resOf b, fun v : Byte => v &&& ~~~(1#8 <<< bitIndex b)),
        (Instr.setOf b, fun v : Byte => v ||| 1#8 <<< bitIndex b)],
      (∀ r, exec (p.1 r.op) s = .next (s.setR8 r (p.2 (s.getR8 r)))) ∧
      (s.canRead s.hl = true → (s.afterRead s.hl).canWrite s.hl (p.2 (s.busRead s.hl)) = true →
        exec (p.1 .mHL) s = .next ((s.afterRead s.hl).busWrite s.hl (p.2 (s.busRead s.hl)))) ∧
      (s.canRead s.hl = false ∨ (s.afterRead s.hl).canWrite s.hl (p.2 (s.busRead s.hl)) = false →
        exec (p.1 .mHL) s = .fault (.addressingError s.hl))

/-! ## Control transfer -/

/-- R301 to R305 (target computations are from general knowledge): the jumps, taken and not taken, with the report of R300.
`s.pc` is the address after the instruction. -/
def Obligations.Jumps : Prop :=
  ∀ (s : State) (k : Cond) (a : Word) (e : Byte),
    let holds : Bool := match k with
      | .nz => !s.flags.z
      | .z => s.flags.z
      | .nc => !s.flags.c
      | .c => s.flags.c
    exec (.jp_a16 a) s = .next { s with pc := a } ∧
    exec .jp_HL s = .next { s with pc := s.hl } ∧
    exec (.jr_e8 e) s = .next { s with pc := BitVec.ofInt 16 (s.pc.toNat + e.toInt) } ∧
    exec (.jpCond k a) s = .next { s with pc := if holds then a else s.pc } ∧
    exec (.jrCond k e) s = .next { s with pc := if holds then BitVec.ofInt 16 (s.pc.toNat + e.toInt) else s.pc } ∧
    taken (.jpCond k a) s.flags = holds ∧ taken (.jrCond k e) s.flags = holds ∧
    taken (.callCond k a) s.flags = holds ∧ taken (.retCond k) s.flags = holds

/-- R306, R307, R311 (target computations are from general knowledge, the stack direction is D31): CALL and RST push the
address after the instruction and go to the target; a CALL whose condition fails changes nothing. -/
def Obligations.CallsAndRestarts : Prop :=
  ∀ (s : State),
    let first : State := s.busWrite (s.sp - 1#16) (hiByte s.pc)
    let entered (a : Word) : State :=
      { first.busWrite (s.sp - 2#16) (loByte s.pc) with sp := s.sp - 2#16, pc := a }
    let call (i : Instr) (a : Word) : Prop :=
      (s.canWrite (s.sp - 1#16) (hiByte s.pc) = true → first.canWrite (s.sp - 2#16) (loByte s.pc) = true →
        exec i s = .next (entered a)) ∧
      (s.canWrite (s.sp - 1#16) (hiByte s.pc) = false → exec i s = .fault (.addressingError (s.sp - 1#16))) ∧
      (s.canWrite (s.sp - 1#16) (hiByte s.pc) = true → first.canWrite (s.sp - 2#16) (loByte s.pc) = false →
        exec i s = .fault (.addressingError (s.sp - 2#16)))
    (∀ a, call (.call_a16 a) a) ∧
    (∀ k a, condHolds k s.flags = true → call (.callCond k a) a) ∧
    (∀ k a, condHolds k s.flags = false → exec (.callCond k a) s = .next s) ∧
    ∀ p ∈ [(RstTarget.t00, 0x00#16), (.t08, 0x08#16), (.t10, 0x10#16), (.t18, 0x18#16), (.t20, 0x20#16), (.t28, 0x28#16),
      (.t30, 0x30#16), (.t38, 0x38#16)], call (.rstOf p.1) p.2

/-- R308, R309, R310 (RETI's effect on IME is from general knowledge, the pop order is D31): the returns pop the pc; RETI sets
IME as well; a RET whose condition fails changes nothing. -/
def Obligations.Returns : Prop :=
  ∀ (s : State),
    let read : State := s.afterRead s.sp
    let popped : State :=
      { read.afterRead (s.sp + 1#16) with sp := s.sp + 2#16, pc := read.busRead (s.sp + 1#16) ++ s.busRead s.sp }
    let returns (i : Instr) (t : State) : Prop :=
      (s.canRead s.sp = true → read.canRead (s.sp + 1#16) = true → exec i s = .next t) ∧
      (s.canRead s.sp = false → exec i s = .fault (.addressingError s.sp)) ∧
      (s.canRead s.sp = true → read.canRead (s.sp + 1#16) = false → exec i s = .fault (.addressingError (s.sp + 1#16)))
    returns .ret popped ∧ returns .reti { popped with ime := true } ∧
    (∀ k, condHolds k s.flags = true → returns (.retCond k) popped) ∧
    ∀ k, condHolds k s.flags = false → exec (.retCond k) s = .next s

/-! ## CPU control -/

/-- NOP does nothing (R330); HALT sets `halted`, and with IME clear and an enabled request pending it queues the byte it reads
at the pc without moving the pc (R331's pseudocode, which the spec builds from the document's HALT); where that read is
refused it is the fault of R67. -/
def Obligations.NopAndHalt : Prop :=
  ∀ (s : State),
    exec .nop s = .next s ∧
    (s.ime = true ∨ s.ie.setWidth 5 &&& s.ifl = 0#5 → exec .halt s = .next { s with halted := true }) ∧
    (s.ime = false → s.ie.setWidth 5 &&& s.ifl ≠ 0#5 → s.canRead s.pc = true →
      exec .halt s = .next { s.afterRead s.pc with halted := true, hq := some (s.busRead s.pc) }) ∧
    (s.ime = false → s.ie.setWidth 5 &&& s.ifl ≠ 0#5 → s.canRead s.pc = false →
      exec .halt s = .fault (.addressingError s.pc))

/-- R332, R333, R334 (the spec's own choices D7 and D8, for every value of their arguments; the model's reset takes
STOP_BEHAVIOUR = nop2, log 6): DI, EI and STOP, and the delayed enable of EI_DELAY = 1. That a mark which the step's own
instruction cleared does not set IME at the end of the step is the model's reading (DEDUCED, log 11), not R334's words: its line
read alone sets IME there, though DI clears the mark. -/
def Obligations.InterruptEnablesAndStop : Prop :=
  ∀ (s : State) (v : Byte),
    exec .di s = .next { s with ime := false, imePending := false } ∧
    (s.params.eiDelay = false → exec .ei s = .next { s with ime := true }) ∧
    (s.params.eiDelay = true → exec .ei s = .next { s with imePending := true }) ∧
    (s.params.stopBehaviour = .nop2 → exec (.stop v) s = .next s) ∧
    (s.params.stopBehaviour = .refuse → exec (.stop v) s = .refused .stop) ∧
    (s.params.stopBehaviour = .fault → exec (.stop v) s = .fault (.undefinedOpcode 0x10#8)) ∧
    State.settleIme true { s with imePending := true } = { s with ime := true, imePending := false } ∧
    State.settleIme true { s with imePending := false } = { s with imePending := false } ∧
    State.settleIme false s = s

/-- The table of R331 (the spec's inference), for a CPU step that runs a HALT from memory with no delayed enable: halted with
nothing pending; dispatched at once with IME set; the halt bug with IME clear. And R359: a halted CPU step fetches nothing,
takes HALT_IDLE_MCYCLES machine-cycles (an argument, 1 by default, D5), stays halted where nothing enabled is pending, and
wakes otherwise, into the handler with IME set and onwards with IME clear. A dispatch adds 5 machine-cycles; HALT's own count
is CYCLES' (an argument, 1 in the spec's table, D4). -/
def Obligations.HaltAndWake : Prop :=
  (∀ (s : State) (b : Byte), s.halted = false → s.hq = none → s.imePending = false →
    s.params.opcodeMap.firstByte b = 0x76#8 → s.holdsAt s.pc [b] →
    let m : Nat := cycles s.params.cycleTable .halt true
    let fetched : State := { s.afterRead s.pc with pc := s.pc + 1#16 }
    (s.ie.setWidth 5 &&& s.ifl = 0#5 → s.cpuStep = .next (m, { fetched with halted := true })) ∧
    (∀ k, s.ime = true → s.firstPending = some k →
      s.cpuStep = (State.service fetched k).andThen fun t => .next (m + 5, t)) ∧
    (s.ie.setWidth 5 &&& s.ifl ≠ 0#5 → s.ime = false → fetched.canRead (s.pc + 1#16) = true →
      s.cpuStep = .next (m, { fetched.afterRead (s.pc + 1#16) with hq := some (fetched.busRead (s.pc + 1#16)) }))) ∧
  (∀ (s : State), s.halted = true → s.imePending = false →
    let m : Nat := s.params.haltIdleMCycles
    (s.ie.setWidth 5 &&& s.ifl = 0#5 → s.cpuStep = .next (m, s)) ∧
    (s.ie.setWidth 5 &&& s.ifl ≠ 0#5 → s.ime = false → s.cpuStep = .next (m, { s with halted := false })) ∧
    (∀ k, s.ime = true → s.firstPending = some k →
      s.cpuStep = (State.service { s with halted := false } k).andThen fun t => .next (m + 5, t))) ∧
  cycles ({} : Params).cycleTable .halt true = 1 ∧ ({} : Params).haltIdleMCycles = 1

/-! ## Interrupts -/

/-- R356: raising a request sets its one bit, clears none, touches nothing else, and is idempotent. -/
def Obligations.RaiseSetsOneBit : Prop :=
  ∀ (s : State) (k : Irq),
    (∀ i, (s.raise k).ifl.getLsbD i = (s.ifl.getLsbD i || decide (i = k.index))) ∧
    s.raise k = { s with ifl := (s.raise k).ifl } ∧ (s.raise k).raise k = s.raise k ∧
    Irq.vblank.index = 0 ∧ Irq.lcdStatus.index = 1 ∧ Irq.timer.index = 2 ∧ Irq.serial.index = 3 ∧ Irq.joypad.index = 4

/-- R360: the interrupt check. Nothing enabled pending: nothing happens. Otherwise `halted` is cleared whatever IME is; with
IME clear nothing is served; with IME set the pending enabled request of least index is served and 5 machine-cycles are
counted. -/
def Obligations.InterruptCheckServesLeast : Prop :=
  ∀ (s : State),
    ((∀ k, s.wants k = false) → s.interruptCheck = .next (0, s)) ∧
    ∀ k, s.wants k = true →
      (s.ime = false → s.interruptCheck = .next (0, { s with halted := false })) ∧
      (s.ime = true → (∀ j : Irq, j.index < k.index → s.wants j = false) →
        s.interruptCheck = (State.service { s with halted := false } k).andThen fun t => .next (5, t))

/-- R362 (the stack direction is D31): the trap entry clears the one request bit and IME, pushes the pc high byte first, and
goes to 0x40 + 8 * index; every register, the flags, `halted` and the halt-bug queue stay, and only the two stack bytes are
stored to. -/
def Obligations.TrapEntry : Prop :=
  ∀ (s : State) (k : Irq),
    let cleared : State := { s with ifl := s.ifl &&& ~~~(1#5 <<< k.index), ime := false }
    let first : State := cleared.busWrite (s.sp - 1#16) (hiByte s.pc)
    let t : State :=
      { first.busWrite (s.sp - 2#16) (loByte s.pc) with
        sp := s.sp - 2#16, pc := BitVec.ofNat 16 (0x40 + 8 * k.index) }
    (s.canWrite (s.sp - 1#16) (hiByte s.pc) = true → first.canWrite (s.sp - 2#16) (loByte s.pc) = true →
      s.service k = .next t ∧ t.regs = s.regs ∧ t.flags = s.flags ∧ t.halted = s.halted ∧ t.hq = s.hq ∧
        t.imePending = s.imePending ∧ t.ime = false ∧ t.irqIn = s.irqIn ∧ t.params = s.params ∧
        cleared.storesOnly t [s.sp - 1#16, s.sp - 2#16]) ∧
    (s.canWrite (s.sp - 1#16) (hiByte s.pc) = false → s.service k = .fault (.addressingError (s.sp - 1#16))) ∧
    (s.canWrite (s.sp - 1#16) (hiByte s.pc) = true → first.canWrite (s.sp - 2#16) (loByte s.pc) = false →
      s.service k = .fault (.addressingError (s.sp - 2#16)))

/-- Where the stack is plain memory, RETI at a handler's entry takes the machine back to the interrupted pc, `SP` and
registers with IME set, and the served request is no longer pending. That RETI exists, pops the pc and sets IME is the spec's
general knowledge (R310, R366; log 23); that the two bytes lie at `SP - 1` and `SP - 2` and are read back in the inverse order is
its own choice (D31; log 17). -/
def Obligations.RetiUndoesTrapEntry : Prop :=
  ∀ (s : State) (k : Irq), s.ext.mem.wf = true → s.plainRam (s.sp - 1#16) → s.plainRam (s.sp - 2#16) →
    ∃ t u, s.service k = .next t ∧ exec .reti t = .next u ∧
      u.pc = s.pc ∧ u.sp = s.sp ∧ u.regs = s.regs ∧ u.flags = s.flags ∧ u.ime = true ∧ u.halted = s.halted ∧ u.hq = s.hq ∧
      u.ie = s.ie ∧ u.ifl.getLsbD k.index = false ∧ ∀ j : Irq, j ≠ k → u.ifl.getLsbD j.index = s.ifl.getLsbD j.index

/-! ## The bus -/

/-- R68, R69 (that the display enable is LCDC bit 7 is D18): in a locked-out range with the display enabled a read returns
0xFF and a store changes nothing, and neither raises; everywhere else, outside the named modes, or with the display off,
there is no lockout: an address that is no block register's is then `Ext`'s (R63). -/
def Obligations.VideoMemoryLockout : Prop :=
  ∀ (s : State) (a : Word) (v : Byte),
    let vram : Bool := decide (0x8000 ≤ a.toNat) && decide (a.toNat ≤ 0x9FFF)
    let oam : Bool := decide (0xFE00 ≤ a.toNat) && decide (a.toNat ≤ 0xFE9F)
    let locked : Bool := s.lcd.lcdc.getLsbD 7 &&
      ((vram && decide (s.lcd.mode = .pixelTransfer)) ||
        (oam && (decide (s.lcd.mode = .oamSearch) || decide (s.lcd.mode = .pixelTransfer))))
    (locked = true → s.memRead a = .next (0xFF#8, s) ∧ s.memWrite a v = .next s) ∧
    (locked = false → a ∉ blockRegisters → s.owner a = .ext)

/-- DIV, TIMA, TMA and IF on the bus (R70, R71, R74). A store to DIV clears it and its accumulator whatever is stored; TIMA and
TMA are plain, and no store to the three touches the other accumulator state (the spec's own choice D17, log 27); IF reads with
the upper three bits set and a store replaces all five stored bits (their number is the spec's own choice D14, log 26). None
raises. -/
def Obligations.TimerAndRequestRegisters : Prop :=
  ∀ (s : State) (v : Byte),
    s.memRead 0xFF04#16 = .next (s.timer.div, s) ∧
    s.memWrite 0xFF04#16 v = .next { s with timer := { s.timer with div := 0#8, divAcc := 0 } } ∧
    s.memRead 0xFF05#16 = .next (s.timer.tima, s) ∧
    s.memWrite 0xFF05#16 v = .next { s with timer := { s.timer with tima := v } } ∧
    s.memRead 0xFF06#16 = .next (s.timer.tma, s) ∧
    s.memWrite 0xFF06#16 v = .next { s with timer := { s.timer with tma := v } } ∧
    s.memRead 0xFF0F#16 = .next (0b111#3 ++ s.ifl, s) ∧
    s.memWrite 0xFF0F#16 v = .next { s with ifl := v.setWidth 5 }

/-- R72, R73, R75 to R78 (layouts and addresses are the spec's own choice, D14, D15, D18, D20, D23): TAC, IE, LCDC, STAT, LY
and LYC on the bus. IE has 8 stored bits by default; that with another IE_WIDTH the bits it lacks are dropped and read as 1 is
the model's choice (log 1). -/
def Obligations.DisplayAndMaskRegisters : Prop :=
  ∀ (s : State) (v : Byte),
    s.memRead 0xFF07#16 = .next ((0b00000#5 ++ s.timer.tac) ||| s.params.tacReadOr, s) ∧
    s.memWrite 0xFF07#16 v = .next { s with timer := { s.timer with tac := v.setWidth 3 } } ∧
    (s.params.ieWidth = 8 → s.memRead 0xFFFF#16 = .next (s.ie, s) ∧ s.memWrite 0xFFFF#16 v = .next { s with ie := v }) ∧
    (let stored : Byte := BitVec.ofNat 8 (2 ^ s.params.ieWidth - 1)
     s.memRead 0xFFFF#16 = .next (s.ie ||| ~~~stored, s) ∧ s.memWrite 0xFFFF#16 v = .next { s with ie := v &&& stored }) ∧
    s.memRead 0xFF40#16 = .next (s.lcd.lcdc, s) ∧
    s.memWrite 0xFF40#16 v = .next { s with lcd := { s.lcd with lcdc := v } } ∧
    (∃ b, s.memRead 0xFF41#16 = .next (s.params.statReadOr ||| b, s) ∧ b.getLsbD 7 = false ∧ b.getLsbD 6 = s.lcd.enL ∧
      b.getLsbD 5 = s.lcd.en2 ∧ b.getLsbD 4 = s.lcd.en1 ∧ b.getLsbD 3 = s.lcd.en0 ∧
      b.getLsbD 2 = decide (s.lcd.ly = s.lcd.lyc.toNat) ∧
      b.toNat % 4 = match s.lcd.mode with
        | .hblank => 0
        | .vblank => 1
        | .oamSearch => 2
        | .pixelTransfer => 3) ∧
    s.memWrite 0xFF41#16 v =
      .next { s with lcd :=
        { s.lcd with enL := v.getLsbD 6, en2 := v.getLsbD 5, en1 := v.getLsbD 4, en0 := v.getLsbD 3 } } ∧
    s.memRead 0xFF44#16 = .next (BitVec.ofNat 8 s.lcd.ly, s) ∧ s.memWrite 0xFF44#16 v = .next s ∧
    s.memRead 0xFF45#16 = .next (s.lcd.lyc, s) ∧ s.memWrite 0xFF45#16 v = .next { s with lcd := { s.lcd with lyc := v } }

/-- R66, R67: an address that is neither locked out nor a block register is `Ext`'s, and how `Ext` answers is the model's
argument (log 2): with stored bytes, a fixed byte, its chip's programs on the chip's own cells, ignoring a store, or with the
fault AddressingError. With no window it is the spec's default `Ext` (D24): a store at 0x8000 or above is kept, one below is
lost, and nothing raises. Whatever takes the store, only what the address names changes. -/
def Obligations.ExternalMemory : Prop :=
  ∀ (s : State) (a : Word) (v : Byte), s.owner a = .ext →
    let withChip (c : List Nat) : State := { s with ext := { s.ext with chip := { s.ext.chip with cells := c } } }
    (s.ext.readKind a = .memory → s.memRead a = .next (s.ext.mem.read a.toNat, s)) ∧
    (∀ b, s.ext.readKind a = .fixed b → s.memRead a = .next (b, s)) ∧
    (s.ext.readKind a = .refuse → s.memRead a = .fault (.addressingError a)) ∧
    (s.ext.readKind a = .chip →
      (∀ n c, s.ext.chip.onRead.run a.toNat 0 s.ext.chip.cells = some (n, c) →
        s.memRead a = .next (BitVec.ofNat 8 n, withChip c)) ∧
      (s.ext.chip.onRead.run a.toNat 0 s.ext.chip.cells = none → s.memRead a = .fault (.addressingError a))) ∧
    (s.ext.writeKind a = .memory → s.ext.mem.wf = true → ∃ m : Memory, m.wf = true ∧
      s.memWrite a v = .next { s with ext := { s.ext with mem := m } } ∧ m.read a.toNat = v ∧
      ∀ b, b ≠ a → m.read b.toNat = s.ext.mem.read b.toNat) ∧
    (s.ext.writeKind a = .ignore → s.memWrite a v = .next s) ∧
    (s.ext.writeKind a = .refuse → s.memWrite a v = .fault (.addressingError a)) ∧
    (s.ext.writeKind a = .chip →
      (∀ n c, s.ext.chip.onWrite.run a.toNat v.toNat s.ext.chip.cells = some (n, c) → s.memWrite a v = .next (withChip c)) ∧
      (s.ext.chip.onWrite.run a.toNat v.toNat s.ext.chip.cells = none → s.memWrite a v = .fault (.addressingError a))) ∧
    (s.ext.windows = [] →
      s.ext.readKind a = .memory ∧ s.ext.writeKind a = if 0x8000 ≤ a.toNat then .memory else .ignore) ∧
    ∀ t, s.memWrite a v = .next t → s.storesOnly t [a]

/-! ## The timer -/

/-- R381 (the comparison `>=` and the layout of TAC are the spec's own choice, D16, D17): one tick of the timer. -/
def Obligations.TimerTick : Prop :=
  ∀ (s : State),
    let period : Nat := [1024, 16, 64, 256].getD (s.timer.tac.toNat % 4) 0
    let fires : Bool := s.timer.tac.getLsbD 2 && decide (period ≤ s.timer.timaAcc + 1)
    let overflow : Bool := fires && decide (s.timer.tima = 0xFF#8)
    s.timerStep =
      { s with
        ifl := s.ifl ||| (if overflow then 0b00100#5 else 0#5)
        timer :=
          { div := if 256 ≤ s.timer.divAcc + 1 then s.timer.div + 1#8 else s.timer.div
            divAcc := if 256 ≤ s.timer.divAcc + 1 then 0 else s.timer.divAcc + 1
            tima := if overflow then s.timer.tma else if fires then s.timer.tima + 1#8 else s.timer.tima
            tma := s.timer.tma
            timaAcc :=
              if fires then 0 else if s.timer.tac.getLsbD 2 then s.timer.timaAcc + 1 else s.timer.timaAcc
            tac := s.timer.tac } }

/-- R382 (the spec's inference, with the document's own example): enabled at 262144 Hz from zero, 4096 ticks give exactly one
overflow: TIMA reloaded from TMA, one Timer request, and no request before the last tick. -/
def Obligations.TimerOverflowAfter4096Ticks : Prop :=
  ∀ (s : State), s.timer.tac = 0b101#3 → s.timer.tima = 0#8 → s.timer.timaAcc = 0 →
    (∀ n, n < 4096 → (State.timerStep^[n] s).ifl = s.ifl ∧ (State.timerStep^[n] s).timer.tima = BitVec.ofNat 8 (n / 16)) ∧
    (State.timerStep^[4096] s).timer.tima = s.timer.tma ∧ (State.timerStep^[4096] s).timer.timaAcc = 0 ∧
    (State.timerStep^[4096] s).ifl = s.ifl ||| 0b00100#5

/-! ## The display -/

/-- The mode changes of R394 and R392, whatever LCDC is (LCD_FREE_RUN, the spec's own choice D19; that without it the display
stands still while LCDC bit 7 is clear is the model's choice, log 1) and with all four latches evaluated at each (D20; log 28):
the last dot of OamSearch changes the mode to PixelTransfer (R394); the last dot of a visible line clears `dot`, counts `LY`, and
goes to VBlank at 144 (raising VBlank unconditionally and counting the frame) and to OamSearch otherwise; then the latches are
evaluated (R392). At every other dot of the two modes only `dot` counts. The frame counter is unbounded by default
(D29). -/
def Obligations.DisplayModeChanges : Prop :=
  ∀ (s : State),
    let runs : Prop := s.params.lcdFreeRun = true ∨ s.lcd.lcdc.getLsbD 7 = true
    let nextFrame : Nat := match s.params.frameWidth with
      | none => s.lcd.frame + 1
      | some w => (s.lcd.frame + 1) % 2 ^ w
    (¬runs → s.lcdStep = s ∧ s.strobes = []) ∧
    (runs → s.lcd.mode = .oamSearch ∧ s.lcd.dot ≠ 79 ∨ s.lcd.mode = .hblank ∧ s.lcd.dot ≠ 455 →
      s.lcdStep = { s with lcd := { s.lcd with dot := s.lcd.dot + 1 } } ∧ s.strobes = []) ∧
    (runs → s.lcd.mode = .oamSearch → s.lcd.dot = 79 →
      s.lcdStep = State.statEval { s with lcd := { s.lcd with dot := 80, mode := .pixelTransfer } } ∧ s.strobes = []) ∧
    (runs → s.lcd.mode = .hblank → s.lcd.dot = 455 → s.lcd.ly = 143 →
      s.lcdStep = State.statEval { s with
        ifl := s.ifl ||| 0b00001#5
        lcd := { s.lcd with dot := 0, ly := 144, mode := .vblank, frame := nextFrame } } ∧
      s.strobes = [.frameComplete]) ∧
    (runs → s.lcd.mode = .hblank → s.lcd.dot = 455 → s.lcd.ly ≠ 143 →
      s.lcdStep = State.statEval { s with lcd := { s.lcd with dot := 0, ly := s.lcd.ly + 1, mode := .oamSearch } } ∧
      s.strobes = [])

/-- R391, R393 (the pixel positions are the spec's own choice D22, the evaluation at VBlank line ends D21): PixelTransfer emits
one pixel event for each x in 0..159 from dot 13 of the mode on and ends after 172 dots; a VBlank line ends as R393 says,
and at every other dot of it only `dot` counts. The display runs whatever LCDC is by default (D19). -/
def Obligations.PixelTransferAndVBlankLines : Prop :=
  ∀ (s : State), s.params.lcdFreeRun = true ∨ s.lcd.lcdc.getLsbD 7 = true →
    (∀ p, 1 ≤ p → p ≤ 172 → s.lcd.mode = .pixelTransfer → s.lcd.dot + 1 = 80 + p →
      s.strobes = (if 13 ≤ p then [.pixelPlaced (p - 13) s.lcd.ly] else []) ∧
      s.lcdStep = (if p = 172 then State.statEval { s with lcd := { s.lcd with dot := 252, mode := .hblank } }
        else { s with lcd := { s.lcd with dot := 80 + p } })) ∧
    (s.lcd.mode = .vblank → s.lcd.dot = 455 →
      s.lcdStep = State.statEval { s with lcd :=
        if s.lcd.ly = 153 then { s.lcd with dot := 0, ly := 0, windowLine := 0, mode := .oamSearch }
        else { s.lcd with dot := 0, ly := s.lcd.ly + 1 } }) ∧
    (s.lcd.mode = .vblank → s.lcd.dot ≠ 455 → s.lcdStep = { s with lcd := { s.lcd with dot := s.lcd.dot + 1 } }) ∧
    (s.lcd.mode = .vblank → s.strobes = [])

/-- R396 (when the latches are evaluated, and that all four are, is the spec's own choice, D20): each latch is its enable and
its condition; a request is raised exactly where the OR of the latches goes from false to true; nothing else changes. -/
def Obligations.StatLineEdge : Prop :=
  ∀ (s : State),
    let l : Lcd :=
      { s.lcd with
        latch0 := s.lcd.en0 && decide (s.lcd.mode = .hblank)
        latch1 := s.lcd.en1 && decide (s.lcd.mode = .vblank)
        latch2 := s.lcd.en2 && decide (s.lcd.mode = .oamSearch)
        latchL := s.lcd.enL && decide (s.lcd.ly = s.lcd.lyc.toNat) }
    let old : Bool := s.lcd.latch0 || s.lcd.latch1 || s.lcd.latch2 || s.lcd.latchL
    let new : Bool := l.latch0 || l.latch1 || l.latch2 || l.latchL
    s.statEval = { s with lcd := l, ifl := s.ifl ||| (if !old && new then 0b00010#5 else 0#5) }

/-- R395 (the spec's inference): from a state in the ranges of R39 and R40 the display is a clock of 154 lines of 456 dots,
whatever LCDC is (D19): after `n` ticks it shows the position `n` later modulo 70224, still in the ranges, so that the mode is
the one of that position. Without LCD_FREE_RUN it stands still while LCDC bit 7 is clear (log 1). -/
def Obligations.DisplayIsAClock : Prop :=
  ∀ (s : State) (n : Nat), s.lcd.inRange →
    (s.params.lcdFreeRun = true ∨ s.lcd.lcdc.getLsbD 7 = true →
      (State.lcdStep^[n] s).lcd.inRange ∧ (State.lcdStep^[n] s).lcd.clock = (s.lcd.clock + n) % 70224) ∧
    (s.params.lcdFreeRun = false → s.lcd.lcdc.getLsbD 7 = false → State.lcdStep^[n] s = s)

/-! ## Timing -/

/-- R470, R471 (the numbers are the spec's own choice, D4; log 13): the machine-cycles of every family in the spec's table, taken
and not taken. R300 gives a report to conditional forms alone, and the model counts every other form as taken (log 13). R470 and
R6 let the table be an argument; that a given table is three lists, for an opcode byte taken and not taken and for a byte after
0xCB, and that a byte past the end of its list counts 0 is the model's choice (logs 13, 1). -/
def Obligations.CycleCounts : Prop :=
  ∀ (t : Bool) (r q : Reg8) (p : Reg16) (k : Stk16) (cc : Cond) (op : AluOp) (ro : RotOp) (b : BitNum) (n : RstTarget)
    (v : Byte) (a : Word),
    let fixed (i : Instr) (n : Nat) : Prop := cycles .standard i true = n ∧ ∀ f, taken i f = true
    (∀ i ∈ [Instr.ld8 r.op q.op, .inc8 r.op, .dec8 r.op, .aluOf op r.op, .rlca, .rrca, .rla, .rra, .daa, .cpl, .scf, .ccf,
      .jp_HL, .nop, .halt, .di, .ei, .stop v], fixed i 1) ∧
    (∀ i ∈ [Instr.ld8Imm r.op v, .ld8 r.op .mHL, .ld8 .mHL r.op, .aluOf op .mHL, .aluImm op v, .ld_mBC_A, .ld_mDE_A,
      .ld_mHLi_A, .ld_mHLd_A, .ld_A_mBC, .ld_A_mDE, .ld_A_mHLi, .ld_A_mHLd, .ldh_mC_A, .ldh_A_mC, .inc16 p, .dec16 p,
      .addHL p, .ld_SP_HL, .rotOf ro r.op, .bitOf b r.op, .resOf b r.op, .setOf b r.op], fixed i 2) ∧
    (∀ i ∈ [Instr.ld8Imm .mHL v, .inc8 .mHL, .dec8 .mHL, .ld16Imm p a, .ldh_ma8_A v, .ldh_A_ma8 v, .popOf k, .jr_e8 v,
      .ld_HL_SPe8 v, .bitOf b .mHL], fixed i 3) ∧
    (∀ i ∈ [Instr.ld_ma16_A a, .ld_A_ma16 a, .pushOf k, .jp_a16 a, .ret, .reti, .rstOf n, .add_SP_e8 v, .rotOf ro .mHL,
      .resOf b .mHL, .setOf b .mHL], fixed i 4) ∧
    fixed (.ld_ma16_SP a) 5 ∧ fixed (.call_a16 a) 6 ∧
    cycles .standard (.jrCond cc v) t = (if t then 3 else 2) ∧ cycles .standard (.jpCond cc a) t = (if t then 4 else 3) ∧
    cycles .standard (.callCond cc a) t = (if t then 6 else 3) ∧ cycles .standard (.retCond cc) t = (if t then 5 else 2) ∧
    ∀ (i : Instr) (taken notTaken prefixed : List Nat), cycles (.given taken notTaken prefixed) i t =
      match encode i with
      | 0xCB#8 :: op2 :: _ => prefixed.getD op2.toNat 0
      | op :: _ => (if t then taken else notTaken).getD op.toNat 0
      | [] => 0

/-! ## Frames: what the instructions leave alone -/

/-- The frame of the loads into a register: the flags, the stack pointer, the pc, the control state and every register but the
destination stay; the `HL` forms write `A`, `H` and `L`; nothing is stored, and the address named with each form is read. -/
def Obligations.LoadFrame : Prop :=
  ∀ (s t : State) (k : Reg8) (o : Operand8) (v : Byte) (a : Word),
    ∀ p ∈ ([(.ld8 k.op o, [k], s.operandReads o), (.ld8Imm k.op v, [k], []), (.ld_A_mBC, [.a], [s.bc]),
      (.ld_A_mDE, [.a], [s.de]), (.ld_A_ma16 a, [.a], [a]), (.ldh_A_mC, [.a], [0xFF00#16 + s.regs.c.setWidth 16]),
      (.ldh_A_ma8 v, [.a], [0xFF00#16 + v.setWidth 16]), (.ld_A_mHLi, [.a, .h, .l], [s.hl]),
      (.ld_A_mHLd, [.a, .h, .l], [s.hl])] : List (Instr × List Reg8 × List Word)),
    exec p.1 s = .next t →
      t.flags = s.flags ∧ t.sp = s.sp ∧ t.pc = s.pc ∧ s.sameRegsBut t p.2.1 ∧ s.sameControl t ∧ s.readsOnly t p.2.2

/-- The frame of the 8-bit stores: registers, flags, `SP`, pc and control state stay (the `HL` forms write `H` and `L`), and
only the byte at the instruction's address is stored to. -/
def Obligations.StoreFrame : Prop :=
  ∀ (s t : State) (r : Reg8) (v : Byte) (a : Word),
    ∀ p ∈ ([(.ld8 .mHL r.op, s.hl, []), (.ld8Imm .mHL v, s.hl, []), (.ld_mBC_A, s.bc, []), (.ld_mDE_A, s.de, []),
      (.ld_ma16_A a, a, []), (.ldh_mC_A, 0xFF00#16 + s.regs.c.setWidth 16, []),
      (.ldh_ma8_A v, 0xFF00#16 + v.setWidth 16, []), (.ld_mHLi_A, s.hl, [.h, .l]), (.ld_mHLd_A, s.hl, [.h, .l])] :
        List (Instr × Word × List Reg8)),
    exec p.1 s = .next t →
      t.flags = s.flags ∧ t.sp = s.sp ∧ t.pc = s.pc ∧ s.sameRegsBut t p.2.2 ∧ s.sameControl t ∧ s.storesOnly t [p.2.1]

/-- The frame of the accumulator operations, of BIT and of the flag operations: they write `A` (CP, BIT, SCF and CCF not even
that) and flags; BIT, CPL, SCF, CCF and DAA leave the flags the spec leaves; nothing is stored, and only a form with the operand
`(HL)` reads, at `HL`. That CP leaves `A` is the spec's own choice (D12, R211; log 20), and so is what CPL, SCF and CCF leave (D13,
R217 to R219; log 21). -/
def Obligations.AccumulatorFrame : Prop :=
  ∀ (s t : State) (op : AluOp) (o : Operand8) (v : Byte) (b : BitNum),
    ∀ i ∈ [Instr.aluOf op o, .aluImm op v, .rlca, .rrca, .rla, .rra, .daa, .cpl, .scf, .ccf, .bitOf b o],
    exec i s = .next t →
      t.sp = s.sp ∧ t.pc = s.pc ∧ s.sameRegsBut t [.a] ∧ s.sameControl t ∧
      (i ∈ [.aluOf op o, .bitOf b o] → s.readsOnly t (s.operandReads o)) ∧
      (i ∉ [.aluOf op o, .bitOf b o] → s.sameMemory t) ∧
      (i ∈ [.aluOf .cp o, .aluImm .cp v, .bitOf b o, .scf, .ccf] → t.regs = s.regs) ∧
      (i ∈ [.bitOf b o, .cpl] → t.flags.c = s.flags.c) ∧ (i ∈ [.cpl, .scf, .ccf] → t.flags.z = s.flags.z) ∧
      (i = .daa → t.flags.n = s.flags.n)

/-- The frame of the read-modify-write instructions: on a register they write that register and flags, at `HL` they
read the byte at `HL` and then store to it, and write flags; INC and DEC leave C, RES and SET leave every flag. -/
def Obligations.ReadModifyWriteFrame : Prop :=
  ∀ (s t : State) (o : Operand8) (k : RotOp) (b : BitNum),
    ∀ i ∈ [Instr.inc8 o, .dec8 o, .rotOf k o, .resOf b o, .setOf b o],
    exec i s = .next t →
      t.sp = s.sp ∧ t.pc = s.pc ∧ s.sameControl t ∧
      (o = .mHL → t.regs = s.regs ∧ s.readsOnly (s.afterRead s.hl) [s.hl] ∧ (s.afterRead s.hl).storesOnly t [s.hl]) ∧
      (∀ r : Reg8, o = r.op → s.sameRegsBut t [r] ∧ s.sameMemory t) ∧
      (i ∈ [.inc8 o, .dec8 o] → t.flags.c = s.flags.c) ∧ (i ∈ [.resOf b o, .setOf b o] → t.flags = s.flags)

/-- The frame of the 16-bit instructions: a pair or `SP`, the flags of ADD HL, ADD SP and LD HL,SP+e8 alone, the popped pair
(and for AF the flags) with the two bytes POP reads, and the two stored bytes of PUSH and LD (a16),SP. That INC rr and DEC rr
write no flag is the spec's general knowledge (R242; log 23); that PUSH's bytes lie at `SP - 1` and `SP - 2`, POP's at `SP` and
`SP + 1` and those of LD (a16),SP at `a16` and `a16 + 1` is its own choice (D31; log 17), and so is N after ADD HL (D10; log 19). -/
def Obligations.WordFrame : Prop :=
  ∀ (s t : State) (r : Reg16) (q : Stk16) (w : Word) (e : Byte),
    let regsOf : Reg16 → List Reg8 := fun
      | .bc => [.b, .c]
      | .de => [.d, .e]
      | .hl => [.h, .l]
      | .sp => []
    let regsOfStk : Stk16 → List Reg8 := fun
      | .bc => [.b, .c]
      | .de => [.d, .e]
      | .hl => [.h, .l]
      | .af => [.a]
    (∀ i ∈ [Instr.ld16Imm r w, .inc16 r, .dec16 r], exec i s = .next t →
      t.flags = s.flags ∧ (r ≠ .sp → t.sp = s.sp) ∧ t.pc = s.pc ∧ s.sameRegsBut t (regsOf r) ∧ s.sameControl t ∧
        s.sameMemory t) ∧
    (∀ i ∈ [Instr.addHL r, .ld_HL_SPe8 e], exec i s = .next t →
      t.sp = s.sp ∧ t.pc = s.pc ∧ s.sameRegsBut t [.h, .l] ∧ s.sameControl t ∧ s.sameMemory t ∧
        (i = .addHL r → t.flags.z = s.flags.z ∧ (s.params.addHlClearsN = false → t.flags.n = s.flags.n))) ∧
    (∀ i ∈ [Instr.add_SP_e8 e, .ld_SP_HL], exec i s = .next t →
      t.regs = s.regs ∧ t.pc = s.pc ∧ s.sameControl t ∧ s.sameMemory t ∧ (i = .ld_SP_HL → t.flags = s.flags)) ∧
    (exec (.popOf q) s = .next t →
      (q ≠ .af → t.flags = s.flags) ∧ t.pc = s.pc ∧ s.sameRegsBut t (regsOfStk q) ∧ s.sameControl t ∧
        s.readsOnly t [s.sp, s.sp + 1#16]) ∧
    (exec (.pushOf q) s = .next t →
      t.regs = s.regs ∧ t.flags = s.flags ∧ t.pc = s.pc ∧ s.sameControl t ∧
        s.storesOnly t [s.sp - 1#16, s.sp - 2#16]) ∧
    (exec (.ld_ma16_SP w) s = .next t →
      t.regs = s.regs ∧ t.flags = s.flags ∧ t.sp = s.sp ∧ t.pc = s.pc ∧ s.sameControl t ∧ s.storesOnly t [w, w + 1#16])

/-- The frame of control transfer and CPU control: no register and no flag is written; the jumps leave `SP` and memory, calls
and restarts store the two stack bytes (a call whose condition fails, none), returns read the two stack bytes (a return whose
condition fails, none) and do not store; HALT reads the byte it queues and nothing else; only RETI, DI, EI
and HALT write control state. That calls and restarts move `SP` down by two with the bytes at `SP - 1` and `SP - 2`, and returns up by
two, is the spec's own choice (D31; log 17); that RETI sets IME and what DI and EI do is its general knowledge (R310, R333, R334; logs
23, 24), and what STOP does under `nop2` the choice D8 (log 6). -/
def Obligations.ControlFrame : Prop :=
  ∀ (s t : State) (k : Cond) (n : RstTarget) (a : Word) (v : Byte),
    (∀ i ∈ [Instr.jp_a16 a, .jpCond k a, .jp_HL, .jr_e8 v, .jrCond k v], exec i s = .next t →
      t.regs = s.regs ∧ t.flags = s.flags ∧ t.sp = s.sp ∧ s.sameControl t ∧ s.sameMemory t) ∧
    (∀ i ∈ [Instr.call_a16 a, .callCond k a, .rstOf n], exec i s = .next t →
      t.regs = s.regs ∧ t.flags = s.flags ∧ s.sameControl t ∧
        (t.sp = s.sp - 2#16 ∧ s.storesOnly t [s.sp - 1#16, s.sp - 2#16] ∨ i = .callCond k a ∧ t = s)) ∧
    (∀ i ∈ [Instr.ret, .retCond k, .reti], exec i s = .next t →
      t.regs = s.regs ∧ t.flags = s.flags ∧ s.sameControl { t with ime := s.ime } ∧ (i ≠ .reti → t.ime = s.ime) ∧
        (t.sp = s.sp + 2#16 ∧ s.readsOnly t [s.sp, s.sp + 1#16] ∨ i = .retCond k ∧ t = s)) ∧
    ∀ i ∈ [Instr.nop, .halt, .stop v, .di, .ei], exec i s = .next t →
      t.regs = s.regs ∧ t.flags = s.flags ∧ t.sp = s.sp ∧ t.pc = s.pc ∧ t.irqIn = s.irqIn ∧
        t.params = s.params ∧ (s.sameMemory t ∨ i = .halt ∧ t.hq = some (s.busRead s.pc) ∧ s.readsOnly t [s.pc]) ∧ (i ∈ [.nop, .stop v] → t = s) ∧
        (i = .halt → t.ime = s.ime ∧ t.imePending = s.imePending) ∧
        (i ∈ [.di, .ei] → t.halted = s.halted ∧ t.hq = s.hq)

/-! ## What only some instructions do -/

/-- R24 with conflict C9, R25 to R28, R42, R77, and 60_exceptions.md R410: over all instructions, only the named ones move
`SP`, only control transfer moves the pc (which is past the instruction already), only DI, EI and RETI write IME or its delay,
only HALT writes `halted` or the queue, and none moves the display or the timer, which step between instructions. (The names
EI, DI and RETI are from general knowledge.) -/
def Obligations.OnlyTheseChangeControlState : Prop :=
  ∀ (i : Instr) (s t : State), exec i s = .next t →
    (t.sp ≠ s.sp → (∃ w, i = .ld_SP_d16 w) ∨ (∃ e, i = .add_SP_e8 e) ∨ i ∈ [.ld_SP_HL, .inc_SP, .dec_SP] ∨
      (∃ q, i = .pushOf q ∨ i = .popOf q) ∨ (∃ a, i = .call_a16 a ∨ ∃ k, i = .callCond k a) ∨ (∃ n, i = .rstOf n) ∨
      i ∈ [.ret, .reti] ∨ ∃ k, i = .retCond k) ∧
    (t.pc ≠ s.pc → (∃ a, i = .jp_a16 a ∨ i = .call_a16 a ∨ ∃ k, i = .jpCond k a ∨ i = .callCond k a) ∨
      (∃ e, i = .jr_e8 e ∨ ∃ k, i = .jrCond k e) ∨ (∃ n, i = .rstOf n) ∨ i ∈ [.jp_HL, .ret, .reti] ∨ ∃ k, i = .retCond k) ∧
    (t.ime ≠ s.ime ∨ t.imePending ≠ s.imePending → i ∈ [.di, .ei, .reti]) ∧
    (t.ime = true → s.ime = false → i ∈ [.ei, .reti]) ∧
    (t.halted ≠ s.halted ∨ t.hq ≠ s.hq → i = .halt) ∧
    t.lcd.mode = s.lcd.mode ∧ t.lcd.dot = s.lcd.dot ∧ t.lcd.ly = s.lcd.ly ∧ t.lcd.frame = s.lcd.frame ∧
    t.lcd.windowLine = s.lcd.windowLine ∧ t.lcd.latch0 = s.lcd.latch0 ∧ t.lcd.latch1 = s.lcd.latch1 ∧
    t.lcd.latch2 = s.lcd.latch2 ∧ t.lcd.latchL = s.lcd.latchL ∧ t.timer.timaAcc = s.timer.timaAcc ∧
    (t.timer.divAcc = s.timer.divAcc ∨ t.timer.divAcc = 0)
end

