-- ==== Sys2Proof/Laws/Bits.lean ====
section
/-! SUPPORT. Pairing and splitting 16-bit values. -/
namespace Sys2Proof

@[simp] theorem word16_hi_lo (v : Word) : word16 (hiByte v) (loByte v) = v := by
  unfold word16 hiByte loByte
  ext i hi
  simp
  grind

@[simp] theorem hiByte_word16 (h l : Byte) : hiByte (word16 h l) = h := BitVec.extractLsb'_append_eq_left

@[simp] theorem loByte_word16 (h l : Byte) : loByte (word16 h l) = l := BitVec.extractLsb'_append_eq_right

end Sys2Proof
end

