-- ==== Sys2Proof/Laws/Memory.lean ====
section
/-! SUPPORT. The laws of the listed memory: read after write, and the canonical form. -/
namespace Sys2Proof.Machine.Memory

/-- Below the lowest listed address every byte is the unlisted one. -/
theorem read_of_lt {m : Memory} {low a : Nat} (h : wfFrom low m = true) (ha : a < low) : read m a = unlisted := by
  induction m generalizing low with
  | nil => rfl
  | cons c m ih =>
    obtain ⟨k, v⟩ := c
    simp only [wfFrom, Bool.and_eq_true, decide_eq_true_eq] at h
    simp only [read, if_neg (show ¬ a = k by omega)]
    exact ih h.2 (by omega)

theorem read_write_same {m : Memory} {low : Nat} (a : Nat) (v : Byte) (h : wfFrom low m = true) :
    read (write m a v) a = v := by
  induction m generalizing low with
  | nil =>
    by_cases hv : v = unlisted
    · simp [write, read, hv]
    · simp [write, read, hv]
  | cons c m ih =>
    obtain ⟨k, w⟩ := c
    simp only [wfFrom, Bool.and_eq_true, decide_eq_true_eq] at h
    have tail : a < k + 1 → read m a = unlisted := fun ha => read_of_lt h.2 ha
    by_cases hlt : a < k
    · by_cases hv : v = unlisted
      · simp [write, hlt, hv, read, show ¬ a = k by omega, tail (by omega)]
      · simp [write, hlt, hv, read]
    · by_cases heq : a = k
      · by_cases hv : v = unlisted
        · simpa [write, heq, hv] using tail (by omega)
        · simp [write, heq, hv, read]
      · simp only [write, if_neg hlt, if_neg heq, read]
        exact ih h.2

theorem read_write_other (m : Memory) (a b : Nat) (v : Byte) (hab : b ≠ a) : read (write m a v) b = read m b := by
  induction m with
  | nil =>
    by_cases hv : v = unlisted <;> simp [write, read, hv, hab]
  | cons c m ih =>
    obtain ⟨k, w⟩ := c
    simp only [write]
    split_ifs <;> simp_all [read]

theorem write_wfFrom {m : Memory} {low : Nat} (a : Nat) (v : Byte) (ha : a < size) (hl : low ≤ a)
    (h : wfFrom low m = true) : wfFrom low (write m a v) = true := by
  induction m generalizing low with
  | nil => by_cases hv : v = unlisted <;> simp [write, wfFrom, hv, hl, ha]
  | cons c m ih =>
    obtain ⟨k, w⟩ := c
    simp only [wfFrom, Bool.and_eq_true, decide_eq_true_eq, bne_iff_ne] at h
    obtain ⟨⟨⟨hk, hs⟩, hw⟩, hm⟩ := h
    have weaken : ∀ {n : Memory} {p q : Nat}, p ≤ q → wfFrom q n = true → wfFrom p n = true := by
      intro n p q hpq hn
      cases n with
      | nil => rfl
      | cons d n =>
        simp only [wfFrom, Bool.and_eq_true, decide_eq_true_eq] at hn ⊢
        exact ⟨⟨⟨by omega, hn.1.1.2⟩, hn.1.2⟩, hn.2⟩
    by_cases hlt : a < k
    · by_cases hv : v = unlisted
      · simp [write, hlt, hv, wfFrom, hk, hs, hw, hm]
      · simp [write, hlt, hv, wfFrom, hl, ha, hs, hw, hm, show a + 1 ≤ k by omega]
    · by_cases heq : a = k
      · by_cases hv : v = unlisted
        · simpa [write, heq, hv] using weaken (by omega) hm
        · simp [write, heq, hv, wfFrom, hk, hs, hm]
      · simp only [write, if_neg hlt, if_neg heq, wfFrom, Bool.and_eq_true, decide_eq_true_eq, bne_iff_ne]
        exact ⟨⟨⟨hk, hs⟩, hw⟩, ih (by omega) hm⟩

/-- Every write at an address of the space keeps the canonical form. -/
theorem write_wf (m : Memory) (a : Nat) (v : Byte) (ha : a < size) (h : wf m = true) : wf (write m a v) = true :=
  write_wfFrom a v ha (Nat.zero_le a) h

end Sys2Proof.Machine.Memory
end

