-- ==== Sys2Proof/Laws/State.lean ====
section
/-! SUPPORT. What each named update of State leaves alone and what it writes: one lemma per field per update. -/
namespace Sys2Proof.Machine.State

variable (s : State)

@[simp] theorem setR8_flags (r : Reg8) (v : Byte) : (s.setR8 r v).flags = s.flags := by cases r <;> rfl
@[simp] theorem setR8_sp (r : Reg8) (v : Byte) : (s.setR8 r v).sp = s.sp := by cases r <;> rfl
@[simp] theorem setR8_pc (r : Reg8) (v : Byte) : (s.setR8 r v).pc = s.pc := by cases r <;> rfl
@[simp] theorem setR8_ime (r : Reg8) (v : Byte) : (s.setR8 r v).ime = s.ime := by cases r <;> rfl
@[simp] theorem setR8_imePending (r : Reg8) (v : Byte) : (s.setR8 r v).imePending = s.imePending := by cases r <;> rfl
@[simp] theorem setR8_halted (r : Reg8) (v : Byte) : (s.setR8 r v).halted = s.halted := by cases r <;> rfl
@[simp] theorem setR8_hq (r : Reg8) (v : Byte) : (s.setR8 r v).hq = s.hq := by cases r <;> rfl
@[simp] theorem setR8_ie (r : Reg8) (v : Byte) : (s.setR8 r v).ie = s.ie := by cases r <;> rfl
@[simp] theorem setR8_ifl (r : Reg8) (v : Byte) : (s.setR8 r v).ifl = s.ifl := by cases r <;> rfl
@[simp] theorem setR8_timer (r : Reg8) (v : Byte) : (s.setR8 r v).timer = s.timer := by cases r <;> rfl
@[simp] theorem setR8_lcd (r : Reg8) (v : Byte) : (s.setR8 r v).lcd = s.lcd := by cases r <;> rfl
@[simp] theorem setR8_ext (r : Reg8) (v : Byte) : (s.setR8 r v).ext = s.ext := by cases r <;> rfl
@[simp] theorem setR8_irqIn (r : Reg8) (v : Byte) : (s.setR8 r v).irqIn = s.irqIn := by cases r <;> rfl
@[simp] theorem setR8_params (r : Reg8) (v : Byte) : (s.setR8 r v).params = s.params := by cases r <;> rfl

@[simp] theorem setBC_regs (v : Word) : (s.setBC v).regs = { s.regs with b := hiByte v, c := loByte v } := rfl
@[simp] theorem setBC_flags (v : Word) : (s.setBC v).flags = s.flags := rfl
@[simp] theorem setBC_sp (v : Word) : (s.setBC v).sp = s.sp := rfl
@[simp] theorem setBC_pc (v : Word) : (s.setBC v).pc = s.pc := rfl
@[simp] theorem setBC_ime (v : Word) : (s.setBC v).ime = s.ime := rfl
@[simp] theorem setBC_imePending (v : Word) : (s.setBC v).imePending = s.imePending := rfl
@[simp] theorem setBC_halted (v : Word) : (s.setBC v).halted = s.halted := rfl
@[simp] theorem setBC_hq (v : Word) : (s.setBC v).hq = s.hq := rfl
@[simp] theorem setBC_ie (v : Word) : (s.setBC v).ie = s.ie := rfl
@[simp] theorem setBC_ifl (v : Word) : (s.setBC v).ifl = s.ifl := rfl
@[simp] theorem setBC_timer (v : Word) : (s.setBC v).timer = s.timer := rfl
@[simp] theorem setBC_lcd (v : Word) : (s.setBC v).lcd = s.lcd := rfl
@[simp] theorem setBC_ext (v : Word) : (s.setBC v).ext = s.ext := rfl
@[simp] theorem setBC_irqIn (v : Word) : (s.setBC v).irqIn = s.irqIn := rfl
@[simp] theorem setBC_params (v : Word) : (s.setBC v).params = s.params := rfl

@[simp] theorem setDE_regs (v : Word) : (s.setDE v).regs = { s.regs with d := hiByte v, e := loByte v } := rfl
@[simp] theorem setDE_flags (v : Word) : (s.setDE v).flags = s.flags := rfl
@[simp] theorem setDE_sp (v : Word) : (s.setDE v).sp = s.sp := rfl
@[simp] theorem setDE_pc (v : Word) : (s.setDE v).pc = s.pc := rfl
@[simp] theorem setDE_ime (v : Word) : (s.setDE v).ime = s.ime := rfl
@[simp] theorem setDE_imePending (v : Word) : (s.setDE v).imePending = s.imePending := rfl
@[simp] theorem setDE_halted (v : Word) : (s.setDE v).halted = s.halted := rfl
@[simp] theorem setDE_hq (v : Word) : (s.setDE v).hq = s.hq := rfl
@[simp] theorem setDE_ie (v : Word) : (s.setDE v).ie = s.ie := rfl
@[simp] theorem setDE_ifl (v : Word) : (s.setDE v).ifl = s.ifl := rfl
@[simp] theorem setDE_timer (v : Word) : (s.setDE v).timer = s.timer := rfl
@[simp] theorem setDE_lcd (v : Word) : (s.setDE v).lcd = s.lcd := rfl
@[simp] theorem setDE_ext (v : Word) : (s.setDE v).ext = s.ext := rfl
@[simp] theorem setDE_irqIn (v : Word) : (s.setDE v).irqIn = s.irqIn := rfl
@[simp] theorem setDE_params (v : Word) : (s.setDE v).params = s.params := rfl

@[simp] theorem setHL_regs (v : Word) : (s.setHL v).regs = { s.regs with h := hiByte v, l := loByte v } := rfl
@[simp] theorem setHL_flags (v : Word) : (s.setHL v).flags = s.flags := rfl
@[simp] theorem setHL_sp (v : Word) : (s.setHL v).sp = s.sp := rfl
@[simp] theorem setHL_pc (v : Word) : (s.setHL v).pc = s.pc := rfl
@[simp] theorem setHL_ime (v : Word) : (s.setHL v).ime = s.ime := rfl
@[simp] theorem setHL_imePending (v : Word) : (s.setHL v).imePending = s.imePending := rfl
@[simp] theorem setHL_halted (v : Word) : (s.setHL v).halted = s.halted := rfl
@[simp] theorem setHL_hq (v : Word) : (s.setHL v).hq = s.hq := rfl
@[simp] theorem setHL_ie (v : Word) : (s.setHL v).ie = s.ie := rfl
@[simp] theorem setHL_ifl (v : Word) : (s.setHL v).ifl = s.ifl := rfl
@[simp] theorem setHL_timer (v : Word) : (s.setHL v).timer = s.timer := rfl
@[simp] theorem setHL_lcd (v : Word) : (s.setHL v).lcd = s.lcd := rfl
@[simp] theorem setHL_ext (v : Word) : (s.setHL v).ext = s.ext := rfl
@[simp] theorem setHL_irqIn (v : Word) : (s.setHL v).irqIn = s.irqIn := rfl
@[simp] theorem setHL_params (v : Word) : (s.setHL v).params = s.params := rfl

@[simp] theorem setFlags_regs (f : Flags) : (s.setFlags f).regs = s.regs := rfl
@[simp] theorem setFlags_flags (f : Flags) : (s.setFlags f).flags = f := rfl
@[simp] theorem setFlags_sp (f : Flags) : (s.setFlags f).sp = s.sp := rfl
@[simp] theorem setFlags_pc (f : Flags) : (s.setFlags f).pc = s.pc := rfl
@[simp] theorem setFlags_ime (f : Flags) : (s.setFlags f).ime = s.ime := rfl
@[simp] theorem setFlags_imePending (f : Flags) : (s.setFlags f).imePending = s.imePending := rfl
@[simp] theorem setFlags_halted (f : Flags) : (s.setFlags f).halted = s.halted := rfl
@[simp] theorem setFlags_hq (f : Flags) : (s.setFlags f).hq = s.hq := rfl
@[simp] theorem setFlags_ie (f : Flags) : (s.setFlags f).ie = s.ie := rfl
@[simp] theorem setFlags_ifl (f : Flags) : (s.setFlags f).ifl = s.ifl := rfl
@[simp] theorem setFlags_timer (f : Flags) : (s.setFlags f).timer = s.timer := rfl
@[simp] theorem setFlags_lcd (f : Flags) : (s.setFlags f).lcd = s.lcd := rfl
@[simp] theorem setFlags_ext (f : Flags) : (s.setFlags f).ext = s.ext := rfl
@[simp] theorem setFlags_irqIn (f : Flags) : (s.setFlags f).irqIn = s.irqIn := rfl
@[simp] theorem setFlags_params (f : Flags) : (s.setFlags f).params = s.params := rfl

@[simp] theorem setPc_regs (v : Word) : (s.setPc v).regs = s.regs := rfl
@[simp] theorem setPc_flags (v : Word) : (s.setPc v).flags = s.flags := rfl
@[simp] theorem setPc_sp (v : Word) : (s.setPc v).sp = s.sp := rfl
@[simp] theorem setPc_pc (v : Word) : (s.setPc v).pc = v := rfl
@[simp] theorem setPc_ime (v : Word) : (s.setPc v).ime = s.ime := rfl
@[simp] theorem setPc_imePending (v : Word) : (s.setPc v).imePending = s.imePending := rfl
@[simp] theorem setPc_halted (v : Word) : (s.setPc v).halted = s.halted := rfl
@[simp] theorem setPc_hq (v : Word) : (s.setPc v).hq = s.hq := rfl
@[simp] theorem setPc_ie (v : Word) : (s.setPc v).ie = s.ie := rfl
@[simp] theorem setPc_ifl (v : Word) : (s.setPc v).ifl = s.ifl := rfl
@[simp] theorem setPc_timer (v : Word) : (s.setPc v).timer = s.timer := rfl
@[simp] theorem setPc_lcd (v : Word) : (s.setPc v).lcd = s.lcd := rfl
@[simp] theorem setPc_ext (v : Word) : (s.setPc v).ext = s.ext := rfl
@[simp] theorem setPc_irqIn (v : Word) : (s.setPc v).irqIn = s.irqIn := rfl
@[simp] theorem setPc_params (v : Word) : (s.setPc v).params = s.params := rfl

@[simp] theorem setSp_regs (v : Word) : (s.setSp v).regs = s.regs := rfl
@[simp] theorem setSp_flags (v : Word) : (s.setSp v).flags = s.flags := rfl
@[simp] theorem setSp_sp (v : Word) : (s.setSp v).sp = v := rfl
@[simp] theorem setSp_pc (v : Word) : (s.setSp v).pc = s.pc := rfl
@[simp] theorem setSp_ime (v : Word) : (s.setSp v).ime = s.ime := rfl
@[simp] theorem setSp_imePending (v : Word) : (s.setSp v).imePending = s.imePending := rfl
@[simp] theorem setSp_halted (v : Word) : (s.setSp v).halted = s.halted := rfl
@[simp] theorem setSp_hq (v : Word) : (s.setSp v).hq = s.hq := rfl
@[simp] theorem setSp_ie (v : Word) : (s.setSp v).ie = s.ie := rfl
@[simp] theorem setSp_ifl (v : Word) : (s.setSp v).ifl = s.ifl := rfl
@[simp] theorem setSp_timer (v : Word) : (s.setSp v).timer = s.timer := rfl
@[simp] theorem setSp_lcd (v : Word) : (s.setSp v).lcd = s.lcd := rfl
@[simp] theorem setSp_ext (v : Word) : (s.setSp v).ext = s.ext := rfl
@[simp] theorem setSp_irqIn (v : Word) : (s.setSp v).irqIn = s.irqIn := rfl
@[simp] theorem setSp_params (v : Word) : (s.setSp v).params = s.params := rfl

@[simp] theorem raise_regs (k : Irq) : (s.raise k).regs = s.regs := rfl
@[simp] theorem raise_flags (k : Irq) : (s.raise k).flags = s.flags := rfl
@[simp] theorem raise_sp (k : Irq) : (s.raise k).sp = s.sp := rfl
@[simp] theorem raise_pc (k : Irq) : (s.raise k).pc = s.pc := rfl
@[simp] theorem raise_ime (k : Irq) : (s.raise k).ime = s.ime := rfl
@[simp] theorem raise_imePending (k : Irq) : (s.raise k).imePending = s.imePending := rfl
@[simp] theorem raise_halted (k : Irq) : (s.raise k).halted = s.halted := rfl
@[simp] theorem raise_hq (k : Irq) : (s.raise k).hq = s.hq := rfl
@[simp] theorem raise_ie (k : Irq) : (s.raise k).ie = s.ie := rfl
@[simp] theorem raise_ifl (k : Irq) : (s.raise k).ifl = s.ifl ||| k.bit := rfl
@[simp] theorem raise_timer (k : Irq) : (s.raise k).timer = s.timer := rfl
@[simp] theorem raise_lcd (k : Irq) : (s.raise k).lcd = s.lcd := rfl
@[simp] theorem raise_ext (k : Irq) : (s.raise k).ext = s.ext := rfl
@[simp] theorem raise_irqIn (k : Irq) : (s.raise k).irqIn = s.irqIn := rfl
@[simp] theorem raise_params (k : Irq) : (s.raise k).params = s.params := rfl

theorem getR8_setR8_same (r : Reg8) (v : Byte) : (s.setR8 r v).getR8 r = v := by cases r <;> rfl

theorem getR8_setR8_other (r q : Reg8) (v : Byte) (h : q ≠ r) : (s.setR8 r v).getR8 q = s.getR8 q := by
  cases r <;> cases q <;> first | rfl | exact absurd rfl h

@[simp] theorem setFlags_getR8 (f : Flags) (r : Reg8) : (s.setFlags f).getR8 r = s.getR8 r := by cases r <;> rfl
@[simp] theorem setPc_getR8 (v : Word) (r : Reg8) : (s.setPc v).getR8 r = s.getR8 r := by cases r <;> rfl
@[simp] theorem setSp_getR8 (v : Word) (r : Reg8) : (s.setSp v).getR8 r = s.getR8 r := by cases r <;> rfl

end Sys2Proof.Machine.State
end

