-- ==== Sys2Proof/Laws/Bus.lean ====
section
/-! SUPPORT. Sequencing, and what the two bus primitives do: when they answer, what a read and a store
change. -/
namespace Sys2Proof.Machine

namespace Result

variable {α β : Type}

@[simp] theorem andThen_next (x : α) (f : α → Result β) : Result.andThen (.next x) f = f x := rfl
@[simp] theorem andThen_fault (e : Fault) (f : α → Result β) : Result.andThen (.fault e) f = .fault e := rfl
@[simp] theorem andThen_refused (e : Refusal) (f : α → Result β) : Result.andThen (.refused e) f = .refused e := rfl

/-- A sequence answers a value only through a value of its first part. -/
theorem andThen_eq_next {r : Result α} {f : α → Result β} {y : β} :
    r.andThen f = .next y ↔ ∃ x, r = .next x ∧ f x = .next y := by
  cases r with
  | next x => simp
  | fault e => simp
  | refused e => simp

theorem andThen_assoc {γ : Type} (r : Result α) (f : α → Result β) (g : β → Result γ) :
    (r.andThen f).andThen g = r.andThen fun x => (f x).andThen g := by cases r <;> rfl

end Result

/-- Everything a store can do to `Ext`. -/
theorem Ext.write_cases (x : Ext) (a : Word) (v : Byte) :
    x.write a v = x ∨ (x.writeKind a = .memory ∧ x.write a v = { x with mem := x.mem.write a.toNat v }) ∨
    (x.writeKind a = .chip ∧ ∃ c, x.write a v = { x with chip := { x.chip with cells := c } }) := by
  unfold Ext.write
  split
  · exact .inr (.inl ⟨‹_›, rfl⟩)
  · exact .inl rfl
  · refine .inr (.inr ⟨‹_›, ?_⟩)
    split
    · rename_i k hk
      unfold Chip.write at hk
      split at hk <;> cases hk
      exact ⟨_, rfl⟩
    · exact ⟨_, rfl⟩
  · exact .inl rfl

/-- The address of a block register (20_memory.md R63); the contention rules and `Ext` have no one address. -/
def Owner.address : Owner → Option Word
  | .div => some 0xFF04#16
  | .tima => some 0xFF05#16
  | .tma => some 0xFF06#16
  | .tac => some 0xFF07#16
  | .iflag => some 0xFF0F#16
  | .lcdc => some 0xFF40#16
  | .stat => some 0xFF41#16
  | .ly => some 0xFF44#16
  | .lyc => some 0xFF45#16
  | .ie => some 0xFFFF#16
  | .locked => none
  | .ext => none

namespace State

variable (s : State)

theorem memRead_eq_next {s : State} {a : Word} {p : Byte × State} :
    s.memRead a = .next p ↔ s.canRead a = true ∧ p = (s.busRead a, s.afterRead a) := by
  unfold memRead
  split
  · exact ⟨fun h => ⟨‹_›, (Host.Outcome.next.inj h).symm⟩, fun h => h.2 ▸ rfl⟩
  · exact ⟨fun h => (by cases h), fun h => absurd h.1 ‹_›⟩

theorem memWrite_eq_next {s t : State} {a : Word} {v : Byte} :
    s.memWrite a v = .next t ↔ s.canWrite a v = true ∧ s.busWrite a v = t := by
  unfold memWrite; split <;> simp_all

@[simp] theorem memRead_of_canRead {a : Word} (h : s.canRead a = true) :
    s.memRead a = .next (s.busRead a, s.afterRead a) := by simp [memRead, h]

@[simp] theorem memRead_of_refused {a : Word} (h : s.canRead a = false) :
    s.memRead a = .fault (.addressingError a) := by simp [memRead, h]

@[simp] theorem memWrite_of_canWrite {a : Word} {v : Byte} (h : s.canWrite a v = true) :
    s.memWrite a v = .next (s.busWrite a v) := by simp [memWrite, h]

@[simp] theorem memWrite_of_refused {a : Word} {v : Byte} (h : s.canWrite a v = false) :
    s.memWrite a v = .fault (.addressingError a) := by simp [memWrite, h]

/-! A read changes the chip's cells at most. -/

/-- The state with other cells in the chip of `Ext`. -/
def withCells (c : List Nat) : State := { s with ext := { s.ext with chip := { s.ext.chip with cells := c } } }

@[simp] theorem withCells_same : s.withCells s.ext.chip.cells = s := rfl
@[simp] theorem withCells_withCells (c d : List Nat) : (s.withCells c).withCells d = s.withCells d := rfl

/-- Everything a read can do to the state. -/
theorem afterRead_eq (a : Word) : s.afterRead a = s.withCells (s.afterRead a).ext.chip.cells := by
  unfold afterRead
  split
  · unfold Ext.afterRead
    split
    · rfl
    · rfl
    · split
      · rename_i h
        unfold Chip.read at h
        split at h <;> cases h
        rfl
      · rfl
    · rfl
  all_goals rfl

/-- A read that the chip does not answer changes nothing. -/
theorem afterRead_of_kind {a : Word} (h : s.ext.readKind a ≠ .chip) : s.afterRead a = s := by
  unfold afterRead Ext.afterRead
  split
  · split <;> first | rfl | exact absurd ‹_› h
  all_goals rfl

theorem afterRead_of_owner {a : Word} (h : s.owner a ≠ .ext) : s.afterRead a = s := by
  unfold afterRead
  split <;> first | rfl | exact absurd ‹_› h

@[simp] theorem afterRead_regs (a : Word) : (s.afterRead a).regs = s.regs := by rw [afterRead_eq]; rfl
@[simp] theorem afterRead_flags (a : Word) : (s.afterRead a).flags = s.flags := by rw [afterRead_eq]; rfl
@[simp] theorem afterRead_sp (a : Word) : (s.afterRead a).sp = s.sp := by rw [afterRead_eq]; rfl
@[simp] theorem afterRead_pc (a : Word) : (s.afterRead a).pc = s.pc := by rw [afterRead_eq]; rfl
@[simp] theorem afterRead_ime (a : Word) : (s.afterRead a).ime = s.ime := by rw [afterRead_eq]; rfl
@[simp] theorem afterRead_imePending (a : Word) : (s.afterRead a).imePending = s.imePending := by rw [afterRead_eq]; rfl
@[simp] theorem afterRead_halted (a : Word) : (s.afterRead a).halted = s.halted := by rw [afterRead_eq]; rfl
@[simp] theorem afterRead_hq (a : Word) : (s.afterRead a).hq = s.hq := by rw [afterRead_eq]; rfl
@[simp] theorem afterRead_ie (a : Word) : (s.afterRead a).ie = s.ie := by rw [afterRead_eq]; rfl
@[simp] theorem afterRead_ifl (a : Word) : (s.afterRead a).ifl = s.ifl := by rw [afterRead_eq]; rfl
@[simp] theorem afterRead_timer (a : Word) : (s.afterRead a).timer = s.timer := by rw [afterRead_eq]; rfl
@[simp] theorem afterRead_lcd (a : Word) : (s.afterRead a).lcd = s.lcd := by rw [afterRead_eq]; rfl
@[simp] theorem afterRead_irqIn (a : Word) : (s.afterRead a).irqIn = s.irqIn := by rw [afterRead_eq]; rfl
@[simp] theorem afterRead_params (a : Word) : (s.afterRead a).params = s.params := by rw [afterRead_eq]; rfl
@[simp] theorem afterRead_ext_mem (a : Word) : (s.afterRead a).ext.mem = s.ext.mem := by rw [afterRead_eq]; rfl
@[simp] theorem afterRead_ext_windows (a : Word) : (s.afterRead a).ext.windows = s.ext.windows := by rw [afterRead_eq]; rfl
@[simp] theorem afterRead_chip_onRead (a : Word) : (s.afterRead a).ext.chip.onRead = s.ext.chip.onRead := by rw [afterRead_eq]; rfl
@[simp] theorem afterRead_chip_onWrite (a : Word) : (s.afterRead a).ext.chip.onWrite = s.ext.chip.onWrite := by rw [afterRead_eq]; rfl
@[simp] theorem afterRead_owner (a b : Word) : (s.afterRead a).owner b = s.owner b := by rw [afterRead_eq]; rfl
@[simp] theorem afterRead_readKind (a b : Word) : (s.afterRead a).ext.readKind b = s.ext.readKind b := by
  rw [afterRead_eq]; rfl
@[simp] theorem afterRead_writeKind (a b : Word) : (s.afterRead a).ext.writeKind b = s.ext.writeKind b := by
  rw [afterRead_eq]; rfl
@[simp] theorem afterRead_getR8 (a : Word) (r : Reg8) : (s.afterRead a).getR8 r = s.getR8 r := by cases r <;> simp [getR8]
@[simp] theorem afterRead_bc (a : Word) : (s.afterRead a).bc = s.bc := by simp [bc]
@[simp] theorem afterRead_de (a : Word) : (s.afterRead a).de = s.de := by simp [de]
@[simp] theorem afterRead_hl (a : Word) : (s.afterRead a).hl = s.hl := by simp [hl]
@[simp] theorem afterRead_af (a : Word) : (s.afterRead a).af = s.af := by simp [af]

/-! A read depends on no register of the CPU. -/

theorem afterRead_setSp (v a : Word) : (s.setSp v).afterRead a = (s.afterRead a).setSp v := by
  have h : (s.setSp v).owner a = s.owner a := rfl
  unfold afterRead; rw [h]; cases s.owner a <;> rfl

theorem afterRead_setPc (v a : Word) : (s.setPc v).afterRead a = (s.afterRead a).setPc v := by
  have h : (s.setPc v).owner a = s.owner a := rfl
  unfold afterRead; rw [h]; cases s.owner a <;> rfl

/-! A store leaves the CPU and the inputs alone. -/

@[simp] theorem busWrite_regs (a : Word) (v : Byte) : (s.busWrite a v).regs = s.regs := by
  unfold busWrite; cases s.owner a <;> rfl
@[simp] theorem busWrite_flags (a : Word) (v : Byte) : (s.busWrite a v).flags = s.flags := by
  unfold busWrite; cases s.owner a <;> rfl
@[simp] theorem busWrite_sp (a : Word) (v : Byte) : (s.busWrite a v).sp = s.sp := by
  unfold busWrite; cases s.owner a <;> rfl
@[simp] theorem busWrite_pc (a : Word) (v : Byte) : (s.busWrite a v).pc = s.pc := by
  unfold busWrite; cases s.owner a <;> rfl
@[simp] theorem busWrite_ime (a : Word) (v : Byte) : (s.busWrite a v).ime = s.ime := by
  unfold busWrite; cases s.owner a <;> rfl
@[simp] theorem busWrite_imePending (a : Word) (v : Byte) : (s.busWrite a v).imePending = s.imePending := by
  unfold busWrite; cases s.owner a <;> rfl
@[simp] theorem busWrite_halted (a : Word) (v : Byte) : (s.busWrite a v).halted = s.halted := by
  unfold busWrite; cases s.owner a <;> rfl
@[simp] theorem busWrite_hq (a : Word) (v : Byte) : (s.busWrite a v).hq = s.hq := by
  unfold busWrite; cases s.owner a <;> rfl
@[simp] theorem busWrite_irqIn (a : Word) (v : Byte) : (s.busWrite a v).irqIn = s.irqIn := by
  unfold busWrite; cases s.owner a <;> rfl
@[simp] theorem busWrite_params (a : Word) (v : Byte) : (s.busWrite a v).params = s.params := by
  unfold busWrite; cases s.owner a <;> rfl

@[simp] theorem busWrite_getR8 (a : Word) (v : Byte) (r : Reg8) : (s.busWrite a v).getR8 r = s.getR8 r := by
  cases r <;> simp [getR8]
@[simp] theorem busWrite_bc (a : Word) (v : Byte) : (s.busWrite a v).bc = s.bc := by simp [bc]
@[simp] theorem busWrite_de (a : Word) (v : Byte) : (s.busWrite a v).de = s.de := by simp [de]
@[simp] theorem busWrite_hl (a : Word) (v : Byte) : (s.busWrite a v).hl = s.hl := by simp [hl]
@[simp] theorem busWrite_af (a : Word) (v : Byte) : (s.busWrite a v).af = s.af := by simp [af]

/-! The bus does not look at the CPU's registers. -/

@[simp] theorem owner_setSp (v a : Word) : (s.setSp v).owner a = s.owner a := rfl
@[simp] theorem canRead_setSp (v a : Word) : (s.setSp v).canRead a = s.canRead a := rfl
@[simp] theorem canWrite_setSp (v a : Word) (b : Byte) : (s.setSp v).canWrite a b = s.canWrite a b := rfl
@[simp] theorem busRead_setSp (v a : Word) : (s.setSp v).busRead a = s.busRead a := rfl
@[simp] theorem owner_setPc (v a : Word) : (s.setPc v).owner a = s.owner a := rfl
@[simp] theorem canRead_setPc (v a : Word) : (s.setPc v).canRead a = s.canRead a := rfl
@[simp] theorem canWrite_setPc (v a : Word) (b : Byte) : (s.setPc v).canWrite a b = s.canWrite a b := rfl
@[simp] theorem busRead_setPc (v a : Word) : (s.setPc v).busRead a = s.busRead a := rfl

theorem busWrite_setSp (p a : Word) (v : Byte) : (s.setSp p).busWrite a v = (s.busWrite a v).setSp p := by
  have h : (s.setSp p).owner a = s.owner a := rfl
  unfold busWrite; rw [h]; cases s.owner a <;> rfl

theorem busWrite_setPc (p a : Word) (v : Byte) : (s.setPc p).busWrite a v = (s.busWrite a v).setPc p := by
  have h : (s.setPc p).owner a = s.owner a := rfl
  unfold busWrite; rw [h]; cases s.owner a <;> rfl

/-- An owner that is a block register is reached at that register's address alone. -/
theorem owner_address {a b : Word} (h : (s.owner a).address = some b) : a = b := by
  unfold owner at h
  repeat' split at h
  all_goals
    cases h
    first
      | done
      | assumption

/-- The owner of an address depends on the display enable and the mode alone, and only in the contended ranges. -/
theorem owner_congr {s t : State} {a : Word} (hm : t.lcd.mode = s.lcd.mode)
    (hl : contended a → t.lcd.lcdc = s.lcd.lcdc) : t.owner a = s.owner a := by
  have hv : t.vramLocked a = s.vramLocked a := by
    by_cases hc : contended a
    · simp only [vramLocked, displayOn, hm, hl hc]
    · have : (decide (0x8000 ≤ a.toNat) && decide (a.toNat ≤ 0x9FFF)) = false := by
        simp only [contended, not_or, not_and] at hc; simpa using hc.1
      simp only [vramLocked, this, Bool.false_and]
  have ho : t.oamLocked a = s.oamLocked a := by
    by_cases hc : contended a
    · simp only [oamLocked, displayOn, hm, hl hc]
    · have : (decide (0xFE00 ≤ a.toNat) && decide (a.toNat ≤ 0xFE9F)) = false := by
        simp only [contended, not_or, not_and] at hc; simpa using hc.2
      simp only [oamLocked, this, Bool.false_and]
  unfold owner
  rw [hv, ho]

/-- Everything a store of `v` to address `a` can leave. -/
inductive StoreEffect (a : Word) (v : Byte) : State → Prop where
  | nothing : StoreEffect a v s
  | div (names : a = 0xFF04#16) : StoreEffect a v { s with timer := { s.timer with div := 0#8, divAcc := 0 } }
  | tima (names : a = 0xFF05#16) : StoreEffect a v { s with timer := { s.timer with tima := v } }
  | tma (names : a = 0xFF06#16) : StoreEffect a v { s with timer := { s.timer with tma := v } }
  | tac (names : a = 0xFF07#16) : StoreEffect a v { s with timer := { s.timer with tac := v.extractLsb' 0 3 } }
  | iflag (names : a = 0xFF0F#16) : StoreEffect a v { s with ifl := v.extractLsb' 0 5 }
  | lcdc (names : a = 0xFF40#16) : StoreEffect a v { s with lcd := { s.lcd with lcdc := v } }
  | stat (names : a = 0xFF41#16) : StoreEffect a v { s with lcd :=
      { s.lcd with enL := v.getLsbD 6, en2 := v.getLsbD 5, en1 := v.getLsbD 4, en0 := v.getLsbD 3 } }
  | lyc (names : a = 0xFF45#16) : StoreEffect a v { s with lcd := { s.lcd with lyc := v } }
  | ie (names : a = 0xFFFF#16) : StoreEffect a v { s with ie := v &&& s.params.ieMask }
  | bytes (owned : s.owner a = .ext) (kind : s.ext.writeKind a = .memory) :
      StoreEffect a v { s with ext := { s.ext with mem := s.ext.mem.write a.toNat v } }
  | cells (owned : s.owner a = .ext) (kind : s.ext.writeKind a = .chip) (c : List Nat) : StoreEffect a v (s.withCells c)

theorem busWrite_effect (a : Word) (v : Byte) : s.StoreEffect a v (s.busWrite a v) := by
  have names : ∀ {o : Owner} {b : Word}, s.owner a = o → o.address = some b → a = b :=
    fun h hb => s.owner_address (h.symm ▸ hb)
  unfold busWrite
  cases h : s.owner a with
  | locked => exact .nothing
  | div => exact .div (names h rfl)
  | tima => exact .tima (names h rfl)
  | tma => exact .tma (names h rfl)
  | tac => exact .tac (names h rfl)
  | iflag => exact .iflag (names h rfl)
  | lcdc => exact .lcdc (names h rfl)
  | stat => exact .stat (names h rfl)
  | ly => exact .nothing
  | lyc => exact .lyc (names h rfl)
  | ie => exact .ie (names h rfl)
  | ext =>
    rcases s.ext.write_cases a v with hx | ⟨hk, hx⟩ | ⟨hk, c, hx⟩ <;> dsimp only <;> rw [hx]
    · exact .nothing
    · exact .bytes h hk
    · exact .cells h hk c

/-- `Ext` owns no block register's address. -/
theorem not_blockRegister {a : Word} (h : s.owner a = .ext) : a ∉ blockRegisters := by
  simp only [blockRegisters, List.mem_cons, List.not_mem_nil, or_false]
  rintro (rfl | rfl | rfl | rfl | rfl | rfl | rfl | rfl | rfl | rfl) <;> simp [owner, vramLocked, oamLocked] at h

/-- The chip answers a read only where it is named for it. -/
theorem afterRead_of_not_chipAnswers {a : Word} (h : ¬ s.ext.chipAnswers a) : s.afterRead a = s := by
  by_cases ho : s.owner a = .ext
  · exact s.afterRead_of_kind fun hk => h ⟨hk, s.not_blockRegister ho⟩
  · exact s.afterRead_of_owner ho

end State

end Sys2Proof.Machine
end

