-- ==== Sys2Proof/Laws/Stores.lean ====
section
/-! SUPPORT. What a read and a store leave alone, said with `readsOnly` and `storesOnly`. -/
namespace Sys2Proof.Machine

/-- `Ext` answers the same where its windows, the byte at the address and its chip are the same. -/
theorem Ext.read_congr {x y : Ext} {a : Word} (hw : y.windows = x.windows) (hm : y.mem.read a.toNat = x.mem.read a.toNat)
    (hc : x.readKind a = .chip → y.chip = x.chip) : y.read a = x.read a := by
  have hk : y.readKind a = x.readKind a := by simp only [readKind, window?, hw]
  unfold read
  rw [hk]
  split
  · exact hm
  · rfl
  · rw [hc ‹_›]
  · rfl

namespace State

/-- Nothing behind the bus differs, whatever the CPU's registers are. -/
def sameBehind (s t : State) : Prop :=
  t.ie = s.ie ∧ t.ifl = s.ifl ∧ t.timer = s.timer ∧ t.lcd = s.lcd ∧ t.ext = s.ext ∧ t.params = s.params

theorem sameBehind_refl (s : State) : s.sameBehind s := ⟨rfl, rfl, rfl, rfl, rfl, rfl⟩

theorem busRead_of_sameBehind {s t : State} (h : s.sameBehind t) (a : Word) : t.busRead a = s.busRead a := by
  obtain ⟨hie, hif, ht, hl, hx, hp⟩ := h
  have ho : t.owner a = s.owner a := owner_congr (by rw [hl]) fun _ => by rw [hl]
  simp only [busRead, ho, hie, hif, ht, hl, hx, hp]

/-! Reads. -/

theorem afterReads_eq (s : State) (as : List Word) : s.afterReads as = s.withCells (s.afterReads as).ext.chip.cells := by
  induction as generalizing s with
  | nil => rfl
  | cons a as ih =>
    show (s.afterRead a).afterReads as = s.withCells ((s.afterRead a).afterReads as).ext.chip.cells
    have e := ih (s.afterRead a)
    generalize (s.afterRead a).afterReads as = t at e ⊢
    rw [afterRead_eq] at e
    exact e

@[simp] theorem afterReads_regs (s : State) (as : List Word) : (s.afterReads as).regs = s.regs := by rw [afterReads_eq]; rfl
@[simp] theorem afterReads_flags (s : State) (as : List Word) : (s.afterReads as).flags = s.flags := by rw [afterReads_eq]; rfl
@[simp] theorem afterReads_sp (s : State) (as : List Word) : (s.afterReads as).sp = s.sp := by rw [afterReads_eq]; rfl
@[simp] theorem afterReads_pc (s : State) (as : List Word) : (s.afterReads as).pc = s.pc := by rw [afterReads_eq]; rfl
@[simp] theorem afterReads_ime (s : State) (as : List Word) : (s.afterReads as).ime = s.ime := by rw [afterReads_eq]; rfl
@[simp] theorem afterReads_imePending (s : State) (as : List Word) : (s.afterReads as).imePending = s.imePending := by rw [afterReads_eq]; rfl
@[simp] theorem afterReads_halted (s : State) (as : List Word) : (s.afterReads as).halted = s.halted := by rw [afterReads_eq]; rfl
@[simp] theorem afterReads_hq (s : State) (as : List Word) : (s.afterReads as).hq = s.hq := by rw [afterReads_eq]; rfl
@[simp] theorem afterReads_ie (s : State) (as : List Word) : (s.afterReads as).ie = s.ie := by rw [afterReads_eq]; rfl
@[simp] theorem afterReads_ifl (s : State) (as : List Word) : (s.afterReads as).ifl = s.ifl := by rw [afterReads_eq]; rfl
@[simp] theorem afterReads_timer (s : State) (as : List Word) : (s.afterReads as).timer = s.timer := by rw [afterReads_eq]; rfl
@[simp] theorem afterReads_lcd (s : State) (as : List Word) : (s.afterReads as).lcd = s.lcd := by rw [afterReads_eq]; rfl
@[simp] theorem afterReads_irqIn (s : State) (as : List Word) : (s.afterReads as).irqIn = s.irqIn := by rw [afterReads_eq]; rfl
@[simp] theorem afterReads_params (s : State) (as : List Word) : (s.afterReads as).params = s.params := by rw [afterReads_eq]; rfl

theorem afterReads_of_not_chipAnswers {s : State} {as : List Word} (h : ∀ a ∈ as, ¬ s.ext.chipAnswers a) :
    s.afterReads as = s := by
  induction as with
  | nil => rfl
  | cons a as ih =>
    show (s.afterRead a).afterReads as = s
    rw [s.afterRead_of_not_chipAnswers (h a (by simp))]
    exact ih fun b hb => h b (List.mem_cons_of_mem a hb)

theorem busRead_withCells (s : State) (c : List Nat) {a : Word} (h : ¬ s.ext.chipAnswers a) :
    (s.withCells c).busRead a = s.busRead a := by
  have same : (s.withCells c).owner a = s.owner a := rfl
  unfold busRead
  rw [same]
  cases ho : s.owner a
  case ext => exact Ext.read_congr rfl rfl fun hk => absurd ⟨hk, s.not_blockRegister ho⟩ h
  all_goals rfl

/-- Reading and then writing CPU registers alone only reads. -/
theorem readsOnly_afterReads {s t : State} {as : List Word} (h : (s.afterReads as).sameBehind t) : s.readsOnly t as := by
  have hread := busRead_of_sameBehind h
  obtain ⟨hie, hif, ht, hl, hx, hp⟩ := h
  have e := s.afterReads_eq as
  refine ⟨by rw [hie, e]; rfl, by rw [hif, e]; rfl, by rw [ht, e]; rfl, by rw [hl, e]; rfl, ?_, fun a ha => ?_, hx,
    fun hn => ?_⟩
  · rw [hx, e]; rfl
  · rw [hread a, e]; exact s.busRead_withCells _ ha
  · have e' := afterReads_of_not_chipAnswers hn
    rw [e'] at hie hif ht hl hx hread
    exact ⟨hie, hif, ht, hl, hx, hread⟩

theorem sameMemory_of_sameBehind {s t : State} (h : s.sameBehind t) : s.sameMemory t := by
  have hread := busRead_of_sameBehind h
  obtain ⟨hie, hif, ht, hl, hx, -⟩ := h
  exact ⟨hie, hif, ht, hl, hx, hread⟩

/-! Stores. -/

theorem storesOnly_refl (s : State) (as : List Word) : s.storesOnly s as := by simp [storesOnly]

theorem storesOnly_mono {s t : State} {as bs : List Word} (h : s.storesOnly t as) (hs : as ⊆ bs) : s.storesOnly t bs := by
  have sub : ∀ a, a ∉ bs → a ∉ as := fun a hb ha => hb (hs ha)
  obtain ⟨h1, h2, h0, h3, h4, h5, h6, h7, h8, h9, h10, h11, h12, h13, h14, h15, h16, h17, h18, h19, h20, h21, h22⟩ := h
  exact ⟨fun a ha => h1 a (sub a ha), h2, fun hn => h0 fun a ha => hn a (hs ha), fun ha => h3 (sub _ ha),
    fun ha => h4 (sub _ ha), fun ha => h5 (sub _ ha),
    fun ha => h6 (sub _ ha), h7, fun ha => h8 (sub _ ha), fun ha => h9 (sub _ ha), fun ha => h10 (sub _ ha),
    fun ha => h11 (sub _ ha), fun ha => h12 (sub _ ha), h13, h14, h15, h16, h17, h18, h19, h20, h21,
    fun a ha hc hl hk => h22 a (sub a ha) (fun ⟨x, y⟩ => hc ⟨hs x, y⟩) (fun ⟨x, y⟩ => hl ⟨hs x, y⟩)
      (fun ⟨x, b, y, z⟩ => hk ⟨x, b, hs y, z⟩)⟩

theorem storesOnly_trans {s t u : State} {as : List Word} (h : s.storesOnly t as) (k : t.storesOnly u as) :
    s.storesOnly u as := by
  obtain ⟨h1, h2, h0, h3, h4, h5, h6, h7, h8, h9, h10, h11, h12, h13, h14, h15, h16, h17, h18, h19, h20, h21, h22⟩ := h
  obtain ⟨k1, k2, k0, k3, k4, k5, k6, k7, k8, k9, k10, k11, k12, k13, k14, k15, k16, k17, k18, k19, k20, k21, k22⟩ := k
  have hr : ∀ a, t.ext.readKind a = s.ext.readKind a := fun a => by rw [h2]; rfl
  have hw : ∀ a, t.ext.writeKind a = s.ext.writeKind a := fun a => by rw [h2]; rfl
  refine ⟨fun a ha => (k1 a ha).trans (h1 a ha), ?_, fun hn => ?_, fun ha => ?_, fun ha => (k4 ha).trans (h4 ha),
    fun ha => (k5 ha).trans (h5 ha), fun ha => (k6 ha).trans (h6 ha), k7.trans h7, fun ha => (k8 ha).trans (h8 ha),
    fun ha => (k9 ha).trans (h9 ha), fun ha => ?_, fun ha => (k11 ha).trans (h11 ha), fun ha => (k12 ha).trans (h12 ha),
    k13.trans h13, k14.trans h14, k15.trans h15, k16.trans h16, k17.trans h17, k18.trans h18, k19.trans h19, k20.trans h20,
    k21.trans h21, fun a ha hc hl hk => (k22 a ha hc hl ?_).trans (h22 a ha hc hl hk)⟩
  · rw [k2, h2]
  · exact (k0 fun a ha => by rw [Ext.chipTakes, hw]; exact hn a ha).trans (h0 hn)
  · exact ⟨(k3 ha).1.trans (h3 ha).1, (k3 ha).2.trans (h3 ha).2⟩
  · obtain ⟨p, q, r, w⟩ := k10 ha
    obtain ⟨p', q', r', w'⟩ := h10 ha
    exact ⟨p.trans p', q.trans q', r.trans r', w.trans w'⟩
  · simpa only [Ext.chipAnswers, Ext.chipTakes, hr, hw] using hk

/-- A store changes no owner, but that a store to LCDC can switch the lockout. -/
theorem owner_busWrite (s : State) {a x : Word} (v : Byte) (hc : ¬(0xFF40#16 = a ∧ contended x)) :
    (s.busWrite a v).owner x = s.owner x := by
  have e := s.busWrite_effect a v
  generalize s.busWrite a v = t at e ⊢
  cases e with
  | lcdc names => exact owner_congr rfl fun hcx => absurd ⟨names.symm, hcx⟩ hc
  | nothing | div | tima | tma | tac | iflag | stat | lyc | ie | bytes | cells => rfl

/-- A store leaves what another address reads, but for the dependences that `storesOnly` names. -/
theorem busRead_busWrite_other (s : State) {a x : Word} (v : Byte) (hx : x ≠ a) (hc : ¬(0xFF40#16 = a ∧ contended x))
    (hl : ¬(0xFF45#16 = a ∧ x = 0xFF41#16)) (hk : ¬(s.ext.chipAnswers x ∧ s.ext.chipTakes a)) :
    (s.busWrite a v).busRead x = s.busRead x := by
  have other : ∀ {o : Owner} {b : Word}, s.owner x = o → o.address = some b → a = b → False := fun ho hb ha =>
    hx ((s.owner_address (ho.symm ▸ hb)).trans ha.symm)
  have same := s.owner_busWrite v hc
  have e := s.busWrite_effect a v
  generalize s.busWrite a v = t at same e ⊢
  cases e with
  | cells owned kind c => exact s.busRead_withCells c fun answers => hk ⟨answers, kind, s.not_blockRegister owned⟩
  | bytes owned kind =>
    unfold busRead
    rw [same]
    cases s.owner x
    case ext =>
      exact Ext.read_congr rfl (Memory.read_write_other _ _ _ _ fun e => hx (BitVec.eq_of_toNat_eq e)) fun _ => rfl
    all_goals rfl
  | lyc names =>
    unfold busRead
    rw [same]
    cases ho : s.owner x
    case lyc => exact (other ho rfl names).elim
    case stat => exact absurd ⟨names.symm, s.owner_address (ho ▸ rfl)⟩ hl
    all_goals rfl
  | nothing => rfl
  | div names | tima names | tma names | tac names | iflag names | lcdc names | stat names | ie names =>
    unfold busRead
    rw [same]
    cases ho : s.owner x
    all_goals first
      | rfl
      | exact (other ho rfl names).elim

/-- A store changes what its address names and nothing else. -/
theorem storesOnly_busWrite (s : State) (a : Word) (v : Byte) : s.storesOnly (s.busWrite a v) [a] := by
  have key : ∀ x, x ∉ [a] → ¬(0xFF40#16 ∈ [a] ∧ contended x) → ¬(0xFF45#16 ∈ [a] ∧ x = 0xFF41#16) →
      ¬(s.ext.chipAnswers x ∧ ∃ b ∈ [a], s.ext.chipTakes b) → (s.busWrite a v).busRead x = s.busRead x := by
    intro x hx hc hl hk
    simp only [List.mem_singleton, exists_eq_left] at hx hc hl hk
    exact s.busRead_busWrite_other v hx hc hl hk
  have e := s.busWrite_effect a v
  generalize s.busWrite a v = t at e key
  cases e with
  | nothing => exact s.storesOnly_refl [a]
  | bytes owned kind =>
    and_intros
    · exact fun x hx => Memory.read_write_other _ _ _ _ fun e => hx (List.mem_singleton.mpr (BitVec.eq_of_toNat_eq e))
    all_goals first
      | exact key
      | rfl
      | (intros; and_intros <;> rfl)
  | cells owned kind c =>
    and_intros
    case refine_2.refine_2.refine_1 => exact fun hn => absurd ⟨kind, s.not_blockRegister owned⟩ (hn a (by simp))
    all_goals first
      | exact key
      | rfl
      | (intros; and_intros <;> rfl)
  | div names | tima names | tma names | tac names | iflag names | lcdc names | stat names | lyc names | ie names =>
    and_intros
    all_goals first
      | exact key
      | rfl
      | exact fun away => absurd (List.mem_singleton.mpr names.symm) away
      | (intros; and_intros <;> rfl)

end State

end Sys2Proof.Machine
end

