-- ==== Sys2Proof/Laws/Ops.lean ====
section
/-! SUPPORT. What the stack operations, the operand accesses and the trap entry answer. -/
namespace Sys2Proof.Machine.State

theorem setSp_setSp (s : State) (v w : Word) : (s.setSp v).setSp w = s.setSp w := rfl

theorem sub_one_sub_one (a : Word) : a - 1#16 - 1#16 = a - 2#16 := by bv_omega

/-- The state after the first, high byte of a push, and after both, where neither store is refused. -/
def pushedHigh (s : State) (v : Word) : State := s.busWrite (s.sp - 1#16) (hiByte v)
def pushed (s : State) (v : Word) : State := ((s.pushedHigh v).busWrite (s.sp - 2#16) (loByte v)).setSp (s.sp - 2#16)

/-- What `Push16` answers. -/
theorem push16_eq (s : State) (v : Word) :
    s.push16 v =
      if s.canWrite (s.sp - 1#16) (hiByte v) then
        (if (s.pushedHigh v).canWrite (s.sp - 2#16) (loByte v) then .next (s.pushed v)
        else .fault (.addressingError (s.sp - 2#16)))
      else .fault (.addressingError (s.sp - 1#16)) := by
  unfold push16 pushByte pushed pushedHigh memWrite
  simp only [canWrite_setSp, busWrite_setSp]
  split_ifs <;> simp_all [setSp_setSp, sub_one_sub_one, busWrite_setSp]

theorem push16_eq_next {s t : State} {v : Word} :
    s.push16 v = .next t ↔
      s.canWrite (s.sp - 1#16) (hiByte v) = true ∧ (s.pushedHigh v).canWrite (s.sp - 2#16) (loByte v) = true ∧
        t = s.pushed v := by
  rw [push16_eq]
  split_ifs with h1 h2
  · exact ⟨fun h => ⟨h1, h2, (Host.Outcome.next.inj h).symm⟩, fun h => by rw [h.2.2]⟩
  · exact ⟨fun h => (by cases h), fun h => absurd h.2.1 h2⟩
  · exact ⟨fun h => (by cases h), fun h => absurd h.1 h1⟩

/-- What `Pop16` answers. -/
theorem pop16_eq (s : State) :
    s.pop16 =
      if s.canRead s.sp then
        (if (s.afterRead s.sp).canRead (s.sp + 1#16) then
          .next (word16 ((s.afterRead s.sp).busRead (s.sp + 1#16)) (s.busRead s.sp),
            (s.afterReads [s.sp, s.sp + 1#16]).setSp (s.sp + 2#16))
        else .fault (.addressingError (s.sp + 1#16)))
      else .fault (.addressingError s.sp) := by
  unfold pop16 memRead
  have h2 : s.sp + 1#16 + 1#16 = s.sp + 2#16 := by bv_omega
  split_ifs <;> simp_all [afterReads]

theorem pop16_eq_next {s : State} {p : Word × State} :
    s.pop16 = .next p ↔
      s.canRead s.sp = true ∧ (s.afterRead s.sp).canRead (s.sp + 1#16) = true ∧
        p = (word16 ((s.afterRead s.sp).busRead (s.sp + 1#16)) (s.busRead s.sp),
          (s.afterReads [s.sp, s.sp + 1#16]).setSp (s.sp + 2#16)) := by
  rw [pop16_eq]
  split_ifs with h1 h2
  · exact ⟨fun h => ⟨h1, h2, (Host.Outcome.next.inj h).symm⟩, fun h => by rw [h.2.2]⟩
  · exact ⟨fun h => (by cases h), fun h => absurd h.2.1 h2⟩
  · exact ⟨fun h => (by cases h), fun h => absurd h.1 h1⟩

section pushed

variable (s : State) (v : Word)

@[simp] theorem pushed_regs : (s.pushed v).regs = s.regs := by simp [pushed, pushedHigh]
@[simp] theorem pushed_flags : (s.pushed v).flags = s.flags := by simp [pushed, pushedHigh]
@[simp] theorem pushed_sp : (s.pushed v).sp = s.sp - 2#16 := by simp [pushed, pushedHigh]
@[simp] theorem pushed_pc : (s.pushed v).pc = s.pc := by simp [pushed, pushedHigh]
@[simp] theorem pushed_ime : (s.pushed v).ime = s.ime := by simp [pushed, pushedHigh]
@[simp] theorem pushed_imePending : (s.pushed v).imePending = s.imePending := by simp [pushed, pushedHigh]
@[simp] theorem pushed_halted : (s.pushed v).halted = s.halted := by simp [pushed, pushedHigh]
@[simp] theorem pushed_hq : (s.pushed v).hq = s.hq := by simp [pushed, pushedHigh]
@[simp] theorem pushed_irqIn : (s.pushed v).irqIn = s.irqIn := by simp [pushed, pushedHigh]
@[simp] theorem pushed_params : (s.pushed v).params = s.params := by simp [pushed, pushedHigh]

/-- A push stores to its two addresses and nowhere else. -/
theorem storesOnly_pushed : s.storesOnly (s.pushed v) [s.sp - 1#16, s.sp - 2#16] :=
  storesOnly_trans
    (storesOnly_mono (s.storesOnly_busWrite (s.sp - 1#16) (hiByte v)) (by simp))
    (storesOnly_mono (State.storesOnly_busWrite _ (s.sp - 2#16) (loByte v)) (by simp))

end pushed

/-- What the trap entry answers. -/
theorem service_eq_next {s t : State} {k : Irq} :
    s.service k = .next t ↔
      let u : State := { s with ifl := s.ifl &&& ~~~k.bit, ime := false }
      u.canWrite (s.sp - 1#16) (hiByte s.pc) = true ∧ (u.pushedHigh s.pc).canWrite (s.sp - 2#16) (loByte s.pc) = true ∧
        t = (u.pushed s.pc).setPc k.vector := by
  unfold service
  rw [Result.andThen_eq_next]
  constructor
  · rintro ⟨u, hu, ht⟩
    obtain ⟨h1, h2, rfl⟩ := push16_eq_next.mp hu
    exact ⟨h1, h2, by simpa [eq_comm] using ht⟩
  · rintro ⟨h1, h2, rfl⟩
    exact ⟨_, push16_eq_next.mpr ⟨h1, h2, rfl⟩, rfl⟩

/-- Reading a register operand changes nothing; reading `(HL)` is a bus read. -/
theorem readOp8_reg (s : State) (r : Reg8) : s.readOp8 r.op = .next (s.getR8 r, s) := by cases r <;> rfl

theorem writeOp8_reg (s : State) (r : Reg8) (v : Byte) : s.writeOp8 r.op v = .next (s.setR8 r v) := by cases r <;> rfl

theorem getR8_setR8 (s : State) (r q : Reg8) (v : Byte) : (s.setR8 r v).getR8 q = if q = r then v else s.getR8 q := by
  cases r <;> cases q <;> rfl

@[simp] theorem setR8_getR8 (s : State) (r : Reg8) : s.setR8 r (s.getR8 r) = s := by cases r <;> rfl

/-- An operand is a register or the byte at `HL`. -/
theorem operand_cases (o : Operand8) : o = .mHL ∨ ∃ r : Reg8, o = r.op := by
  cases o
  exacts [.inr ⟨.b, rfl⟩, .inr ⟨.c, rfl⟩, .inr ⟨.d, rfl⟩, .inr ⟨.e, rfl⟩, .inr ⟨.h, rfl⟩, .inr ⟨.l, rfl⟩, .inl rfl,
    .inr ⟨.a, rfl⟩]

end Sys2Proof.Machine.State
end

