-- ==== Sys2Proof/Laws/Forms.lean ====
section
/-! SUPPORT. The instructions by their operands: every instruction is one of the forms below, and what `exec` does with each
form. A statement over all instructions is proved by cases on `Form`, not on the 511 constructors. -/
namespace Sys2Proof.Machine

/-- The forms of 30_encoding.md R112 and R114. -/
inductive Form : Instr → Prop where
  | ld8 (k : Operand8) (o : Operand8) (h : ¬(k = .mHL ∧ o = .mHL)) : Form (.ld8 k o)
  | ld8Imm (k : Operand8) (v : Byte) : Form (.ld8Imm k v)
  | ld16Imm (k : Reg16) (w : Word) : Form (.ld16Imm k w)
  | pushOf (k : Stk16) : Form (.pushOf k)
  | popOf (k : Stk16) : Form (.popOf k)
  | aluOf (k : AluOp) (o : Operand8) : Form (.aluOf k o)
  | aluImm (k : AluOp) (v : Byte) : Form (.aluImm k v)
  | inc8 (k : Operand8) : Form (.inc8 k)
  | dec8 (k : Operand8) : Form (.dec8 k)
  | addHL (k : Reg16) : Form (.addHL k)
  | inc16 (k : Reg16) : Form (.inc16 k)
  | dec16 (k : Reg16) : Form (.dec16 k)
  | jpCond (k : Cond) (a : Word) : Form (.jpCond k a)
  | jrCond (k : Cond) (e : Byte) : Form (.jrCond k e)
  | callCond (k : Cond) (a : Word) : Form (.callCond k a)
  | retCond (k : Cond) : Form (.retCond k)
  | rstOf (k : RstTarget) : Form (.rstOf k)
  | rotOf (k : RotOp) (o : Operand8) : Form (.rotOf k o)
  | bitOf (k : BitNum) (o : Operand8) : Form (.bitOf k o)
  | resOf (k : BitNum) (o : Operand8) : Form (.resOf k o)
  | setOf (k : BitNum) (o : Operand8) : Form (.setOf k o)
  | ld_ma16_SP (a : Word) : Form (.ld_ma16_SP a)
  | stop (v : Byte) : Form (.stop v)
  | jr_e8 (e : Byte) : Form (.jr_e8 e)
  | jp_a16 (a : Word) : Form (.jp_a16 a)
  | call_a16 (a : Word) : Form (.call_a16 a)
  | ldh_ma8_A (n : Byte) : Form (.ldh_ma8_A n)
  | add_SP_e8 (e : Byte) : Form (.add_SP_e8 e)
  | ld_ma16_A (a : Word) : Form (.ld_ma16_A a)
  | ldh_A_ma8 (n : Byte) : Form (.ldh_A_ma8 n)
  | ld_HL_SPe8 (e : Byte) : Form (.ld_HL_SPe8 e)
  | ld_A_ma16 (a : Word) : Form (.ld_A_ma16 a)
  | nop : Form (.nop)
  | ld_mBC_A : Form (.ld_mBC_A)
  | rlca : Form (.rlca)
  | ld_A_mBC : Form (.ld_A_mBC)
  | rrca : Form (.rrca)
  | ld_mDE_A : Form (.ld_mDE_A)
  | rla : Form (.rla)
  | ld_A_mDE : Form (.ld_A_mDE)
  | rra : Form (.rra)
  | ld_mHLi_A : Form (.ld_mHLi_A)
  | daa : Form (.daa)
  | ld_A_mHLi : Form (.ld_A_mHLi)
  | cpl : Form (.cpl)
  | ld_mHLd_A : Form (.ld_mHLd_A)
  | scf : Form (.scf)
  | ld_A_mHLd : Form (.ld_A_mHLd)
  | ccf : Form (.ccf)
  | halt : Form (.halt)
  | ret : Form (.ret)
  | reti : Form (.reti)
  | ldh_mC_A : Form (.ldh_mC_A)
  | jp_HL : Form (.jp_HL)
  | ldh_A_mC : Form (.ldh_A_mC)
  | di : Form (.di)
  | ld_SP_HL : Form (.ld_SP_HL)
  | ei : Form (.ei)
  | undefined (i : Instr) (op : Byte) (h : i.wellFormed = false) (he : ∀ s, exec i s = .fault (.undefinedOpcode op)) : Form i

theorem form (i : Instr) : Form i :=
  match i with
  | .ld_BC_d16 w => .ld16Imm .bc w
  | .ld_B_d8 v => .ld8Imm .b v
  | .ld_ma16_SP a => .ld_ma16_SP a
  | .ld_C_d8 v => .ld8Imm .c v
  | .stop v => .stop v
  | .ld_DE_d16 w => .ld16Imm .de w
  | .ld_D_d8 v => .ld8Imm .d v
  | .jr_e8 e => .jr_e8 e
  | .ld_E_d8 v => .ld8Imm .e v
  | .jr_NZ_e8 e => .jrCond .nz e
  | .ld_HL_d16 w => .ld16Imm .hl w
  | .ld_H_d8 v => .ld8Imm .h v
  | .jr_Z_e8 e => .jrCond .z e
  | .ld_L_d8 v => .ld8Imm .l v
  | .jr_NC_e8 e => .jrCond .nc e
  | .ld_SP_d16 w => .ld16Imm .sp w
  | .ld_mHL_d8 v => .ld8Imm .mHL v
  | .jr_C_e8 e => .jrCond .c e
  | .ld_A_d8 v => .ld8Imm .a v
  | .jp_NZ_a16 a => .jpCond .nz a
  | .jp_a16 a => .jp_a16 a
  | .call_NZ_a16 a => .callCond .nz a
  | .add_A_d8 v => .aluImm .add v
  | .jp_Z_a16 a => .jpCond .z a
  | .call_Z_a16 a => .callCond .z a
  | .call_a16 a => .call_a16 a
  | .adc_A_d8 v => .aluImm .adc v
  | .jp_NC_a16 a => .jpCond .nc a
  | .call_NC_a16 a => .callCond .nc a
  | .sub_d8 v => .aluImm .sub v
  | .jp_C_a16 a => .jpCond .c a
  | .call_C_a16 a => .callCond .c a
  | .sbc_A_d8 v => .aluImm .sbc v
  | .ldh_ma8_A n => .ldh_ma8_A n
  | .and_d8 v => .aluImm .and v
  | .add_SP_e8 e => .add_SP_e8 e
  | .ld_ma16_A a => .ld_ma16_A a
  | .xor_d8 v => .aluImm .xor v
  | .ldh_A_ma8 n => .ldh_A_ma8 n
  | .or_d8 v => .aluImm .or v
  | .ld_HL_SPe8 e => .ld_HL_SPe8 e
  | .ld_A_ma16 a => .ld_A_ma16 a
  | .cp_d8 v => .aluImm .cp v
  | .nop => .nop
  | .ld_mBC_A => .ld_mBC_A
  | .inc_BC => .inc16 .bc
  | .inc_B => .inc8 .b
  | .dec_B => .dec8 .b
  | .rlca => .rlca
  | .add_HL_BC => .addHL .bc
  | .ld_A_mBC => .ld_A_mBC
  | .dec_BC => .dec16 .bc
  | .inc_C => .inc8 .c
  | .dec_C => .dec8 .c
  | .rrca => .rrca
  | .ld_mDE_A => .ld_mDE_A
  | .inc_DE => .inc16 .de
  | .inc_D => .inc8 .d
  | .dec_D => .dec8 .d
  | .rla => .rla
  | .add_HL_DE => .addHL .de
  | .ld_A_mDE => .ld_A_mDE
  | .dec_DE => .dec16 .de
  | .inc_E => .inc8 .e
  | .dec_E => .dec8 .e
  | .rra => .rra
  | .ld_mHLi_A => .ld_mHLi_A
  | .inc_HL => .inc16 .hl
  | .inc_H => .inc8 .h
  | .dec_H => .dec8 .h
  | .daa => .daa
  | .add_HL_HL => .addHL .hl
  | .ld_A_mHLi => .ld_A_mHLi
  | .dec_HL => .dec16 .hl
  | .inc_L => .inc8 .l
  | .dec_L => .dec8 .l
  | .cpl => .cpl
  | .ld_mHLd_A => .ld_mHLd_A
  | .inc_SP => .inc16 .sp
  | .inc_mHL => .inc8 .mHL
  | .dec_mHL => .dec8 .mHL
  | .scf => .scf
  | .add_HL_SP => .addHL .sp
  | .ld_A_mHLd => .ld_A_mHLd
  | .dec_SP => .dec16 .sp
  | .inc_A => .inc8 .a
  | .dec_A => .dec8 .a
  | .ccf => .ccf
  | .ld_B_B => .ld8 .b .b (by decide)
  | .ld_B_C => .ld8 .b .c (by decide)
  | .ld_B_D => .ld8 .b .d (by decide)
  | .ld_B_E => .ld8 .b .e (by decide)
  | .ld_B_H => .ld8 .b .h (by decide)
  | .ld_B_L => .ld8 .b .l (by decide)
  | .ld_B_mHL => .ld8 .b .mHL (by decide)
  | .ld_B_A => .ld8 .b .a (by decide)
  | .ld_C_B => .ld8 .c .b (by decide)
  | .ld_C_C => .ld8 .c .c (by decide)
  | .ld_C_D => .ld8 .c .d (by decide)
  | .ld_C_E => .ld8 .c .e (by decide)
  | .ld_C_H => .ld8 .c .h (by decide)
  | .ld_C_L => .ld8 .c .l (by decide)
  | .ld_C_mHL => .ld8 .c .mHL (by decide)
  | .ld_C_A => .ld8 .c .a (by decide)
  | .ld_D_B => .ld8 .d .b (by decide)
  | .ld_D_C => .ld8 .d .c (by decide)
  | .ld_D_D => .ld8 .d .d (by decide)
  | .ld_D_E => .ld8 .d .e (by decide)
  | .ld_D_H => .ld8 .d .h (by decide)
  | .ld_D_L => .ld8 .d .l (by decide)
  | .ld_D_mHL => .ld8 .d .mHL (by decide)
  | .ld_D_A => .ld8 .d .a (by decide)
  | .ld_E_B => .ld8 .e .b (by decide)
  | .ld_E_C => .ld8 .e .c (by decide)
  | .ld_E_D => .ld8 .e .d (by decide)
  | .ld_E_E => .ld8 .e .e (by decide)
  | .ld_E_H => .ld8 .e .h (by decide)
  | .ld_E_L => .ld8 .e .l (by decide)
  | .ld_E_mHL => .ld8 .e .mHL (by decide)
  | .ld_E_A => .ld8 .e .a (by decide)
  | .ld_H_B => .ld8 .h .b (by decide)
  | .ld_H_C => .ld8 .h .c (by decide)
  | .ld_H_D => .ld8 .h .d (by decide)
  | .ld_H_E => .ld8 .h .e (by decide)
  | .ld_H_H => .ld8 .h .h (by decide)
  | .ld_H_L => .ld8 .h .l (by decide)
  | .ld_H_mHL => .ld8 .h .mHL (by decide)
  | .ld_H_A => .ld8 .h .a (by decide)
  | .ld_L_B => .ld8 .l .b (by decide)
  | .ld_L_C => .ld8 .l .c (by decide)
  | .ld_L_D => .ld8 .l .d (by decide)
  | .ld_L_E => .ld8 .l .e (by decide)
  | .ld_L_H => .ld8 .l .h (by decide)
  | .ld_L_L => .ld8 .l .l (by decide)
  | .ld_L_mHL => .ld8 .l .mHL (by decide)
  | .ld_L_A => .ld8 .l .a (by decide)
  | .ld_mHL_B => .ld8 .mHL .b (by decide)
  | .ld_mHL_C => .ld8 .mHL .c (by decide)
  | .ld_mHL_D => .ld8 .mHL .d (by decide)
  | .ld_mHL_E => .ld8 .mHL .e (by decide)
  | .ld_mHL_H => .ld8 .mHL .h (by decide)
  | .ld_mHL_L => .ld8 .mHL .l (by decide)
  | .halt => .halt
  | .ld_mHL_A => .ld8 .mHL .a (by decide)
  | .ld_A_B => .ld8 .a .b (by decide)
  | .ld_A_C => .ld8 .a .c (by decide)
  | .ld_A_D => .ld8 .a .d (by decide)
  | .ld_A_E => .ld8 .a .e (by decide)
  | .ld_A_H => .ld8 .a .h (by decide)
  | .ld_A_L => .ld8 .a .l (by decide)
  | .ld_A_mHL => .ld8 .a .mHL (by decide)
  | .ld_A_A => .ld8 .a .a (by decide)
  | .add_A_B => .aluOf .add .b
  | .add_A_C => .aluOf .add .c
  | .add_A_D => .aluOf .add .d
  | .add_A_E => .aluOf .add .e
  | .add_A_H => .aluOf .add .h
  | .add_A_L => .aluOf .add .l
  | .add_A_mHL => .aluOf .add .mHL
  | .add_A_A => .aluOf .add .a
  | .adc_A_B => .aluOf .adc .b
  | .adc_A_C => .aluOf .adc .c
  | .adc_A_D => .aluOf .adc .d
  | .adc_A_E => .aluOf .adc .e
  | .adc_A_H => .aluOf .adc .h
  | .adc_A_L => .aluOf .adc .l
  | .adc_A_mHL => .aluOf .adc .mHL
  | .adc_A_A => .aluOf .adc .a
  | .sub_B => .aluOf .sub .b
  | .sub_C => .aluOf .sub .c
  | .sub_D => .aluOf .sub .d
  | .sub_E => .aluOf .sub .e
  | .sub_H => .aluOf .sub .h
  | .sub_L => .aluOf .sub .l
  | .sub_mHL => .aluOf .sub .mHL
  | .sub_A => .aluOf .sub .a
  | .sbc_A_B => .aluOf .sbc .b
  | .sbc_A_C => .aluOf .sbc .c
  | .sbc_A_D => .aluOf .sbc .d
  | .sbc_A_E => .aluOf .sbc .e
  | .sbc_A_H => .aluOf .sbc .h
  | .sbc_A_L => .aluOf .sbc .l
  | .sbc_A_mHL => .aluOf .sbc .mHL
  | .sbc_A_A => .aluOf .sbc .a
  | .and_B => .aluOf .and .b
  | .and_C => .aluOf .and .c
  | .and_D => .aluOf .and .d
  | .and_E => .aluOf .and .e
  | .and_H => .aluOf .and .h
  | .and_L => .aluOf .and .l
  | .and_mHL => .aluOf .and .mHL
  | .and_A => .aluOf .and .a
  | .xor_B => .aluOf .xor .b
  | .xor_C => .aluOf .xor .c
  | .xor_D => .aluOf .xor .d
  | .xor_E => .aluOf .xor .e
  | .xor_H => .aluOf .xor .h
  | .xor_L => .aluOf .xor .l
  | .xor_mHL => .aluOf .xor .mHL
  | .xor_A => .aluOf .xor .a
  | .or_B => .aluOf .or .b
  | .or_C => .aluOf .or .c
  | .or_D => .aluOf .or .d
  | .or_E => .aluOf .or .e
  | .or_H => .aluOf .or .h
  | .or_L => .aluOf .or .l
  | .or_mHL => .aluOf .or .mHL
  | .or_A => .aluOf .or .a
  | .cp_B => .aluOf .cp .b
  | .cp_C => .aluOf .cp .c
  | .cp_D => .aluOf .cp .d
  | .cp_E => .aluOf .cp .e
  | .cp_H => .aluOf .cp .h
  | .cp_L => .aluOf .cp .l
  | .cp_mHL => .aluOf .cp .mHL
  | .cp_A => .aluOf .cp .a
  | .ret_NZ => .retCond .nz
  | .pop_BC => .popOf .bc
  | .push_BC => .pushOf .bc
  | .rst_00 => .rstOf .t00
  | .ret_Z => .retCond .z
  | .ret => .ret
  | .rst_08 => .rstOf .t08
  | .ret_NC => .retCond .nc
  | .pop_DE => .popOf .de
  | .undefined_D3 => .undefined _ 0xD3#8 rfl fun _ => rfl
  | .push_DE => .pushOf .de
  | .rst_10 => .rstOf .t10
  | .ret_C => .retCond .c
  | .reti => .reti
  | .undefined_DB => .undefined _ 0xDB#8 rfl fun _ => rfl
  | .undefined_DD => .undefined _ 0xDD#8 rfl fun _ => rfl
  | .rst_18 => .rstOf .t18
  | .pop_HL => .popOf .hl
  | .ldh_mC_A => .ldh_mC_A
  | .undefined_E3 => .undefined _ 0xE3#8 rfl fun _ => rfl
  | .undefined_E4 => .undefined _ 0xE4#8 rfl fun _ => rfl
  | .push_HL => .pushOf .hl
  | .rst_20 => .rstOf .t20
  | .jp_HL => .jp_HL
  | .undefined_EB => .undefined _ 0xEB#8 rfl fun _ => rfl
  | .undefined_EC => .undefined _ 0xEC#8 rfl fun _ => rfl
  | .undefined_ED => .undefined _ 0xED#8 rfl fun _ => rfl
  | .rst_28 => .rstOf .t28
  | .pop_AF => .popOf .af
  | .ldh_A_mC => .ldh_A_mC
  | .di => .di
  | .undefined_F4 => .undefined _ 0xF4#8 rfl fun _ => rfl
  | .push_AF => .pushOf .af
  | .rst_30 => .rstOf .t30
  | .ld_SP_HL => .ld_SP_HL
  | .ei => .ei
  | .undefined_FC => .undefined _ 0xFC#8 rfl fun _ => rfl
  | .undefined_FD => .undefined _ 0xFD#8 rfl fun _ => rfl
  | .rst_38 => .rstOf .t38
  | .rlc_B => .rotOf .rlc .b
  | .rlc_C => .rotOf .rlc .c
  | .rlc_D => .rotOf .rlc .d
  | .rlc_E => .rotOf .rlc .e
  | .rlc_H => .rotOf .rlc .h
  | .rlc_L => .rotOf .rlc .l
  | .rlc_mHL => .rotOf .rlc .mHL
  | .rlc_A => .rotOf .rlc .a
  | .rrc_B => .rotOf .rrc .b
  | .rrc_C => .rotOf .rrc .c
  | .rrc_D => .rotOf .rrc .d
  | .rrc_E => .rotOf .rrc .e
  | .rrc_H => .rotOf .rrc .h
  | .rrc_L => .rotOf .rrc .l
  | .rrc_mHL => .rotOf .rrc .mHL
  | .rrc_A => .rotOf .rrc .a
  | .rl_B => .rotOf .rl .b
  | .rl_C => .rotOf .rl .c
  | .rl_D => .rotOf .rl .d
  | .rl_E => .rotOf .rl .e
  | .rl_H => .rotOf .rl .h
  | .rl_L => .rotOf .rl .l
  | .rl_mHL => .rotOf .rl .mHL
  | .rl_A => .rotOf .rl .a
  | .rr_B => .rotOf .rr .b
  | .rr_C => .rotOf .rr .c
  | .rr_D => .rotOf .rr .d
  | .rr_E => .rotOf .rr .e
  | .rr_H => .rotOf .rr .h
  | .rr_L => .rotOf .rr .l
  | .rr_mHL => .rotOf .rr .mHL
  | .rr_A => .rotOf .rr .a
  | .sla_B => .rotOf .sla .b
  | .sla_C => .rotOf .sla .c
  | .sla_D => .rotOf .sla .d
  | .sla_E => .rotOf .sla .e
  | .sla_H => .rotOf .sla .h
  | .sla_L => .rotOf .sla .l
  | .sla_mHL => .rotOf .sla .mHL
  | .sla_A => .rotOf .sla .a
  | .sra_B => .rotOf .sra .b
  | .sra_C => .rotOf .sra .c
  | .sra_D => .rotOf .sra .d
  | .sra_E => .rotOf .sra .e
  | .sra_H => .rotOf .sra .h
  | .sra_L => .rotOf .sra .l
  | .sra_mHL => .rotOf .sra .mHL
  | .sra_A => .rotOf .sra .a
  | .swap_B => .rotOf .swap .b
  | .swap_C => .rotOf .swap .c
  | .swap_D => .rotOf .swap .d
  | .swap_E => .rotOf .swap .e
  | .swap_H => .rotOf .swap .h
  | .swap_L => .rotOf .swap .l
  | .swap_mHL => .rotOf .swap .mHL
  | .swap_A => .rotOf .swap .a
  | .srl_B => .rotOf .srl .b
  | .srl_C => .rotOf .srl .c
  | .srl_D => .rotOf .srl .d
  | .srl_E => .rotOf .srl .e
  | .srl_H => .rotOf .srl .h
  | .srl_L => .rotOf .srl .l
  | .srl_mHL => .rotOf .srl .mHL
  | .srl_A => .rotOf .srl .a
  | .bit_0_B => .bitOf .b0 .b
  | .bit_0_C => .bitOf .b0 .c
  | .bit_0_D => .bitOf .b0 .d
  | .bit_0_E => .bitOf .b0 .e
  | .bit_0_H => .bitOf .b0 .h
  | .bit_0_L => .bitOf .b0 .l
  | .bit_0_mHL => .bitOf .b0 .mHL
  | .bit_0_A => .bitOf .b0 .a
  | .bit_1_B => .bitOf .b1 .b
  | .bit_1_C => .bitOf .b1 .c
  | .bit_1_D => .bitOf .b1 .d
  | .bit_1_E => .bitOf .b1 .e
  | .bit_1_H => .bitOf .b1 .h
  | .bit_1_L => .bitOf .b1 .l
  | .bit_1_mHL => .bitOf .b1 .mHL
  | .bit_1_A => .bitOf .b1 .a
  | .bit_2_B => .bitOf .b2 .b
  | .bit_2_C => .bitOf .b2 .c
  | .bit_2_D => .bitOf .b2 .d
  | .bit_2_E => .bitOf .b2 .e
  | .bit_2_H => .bitOf .b2 .h
  | .bit_2_L => .bitOf .b2 .l
  | .bit_2_mHL => .bitOf .b2 .mHL
  | .bit_2_A => .bitOf .b2 .a
  | .bit_3_B => .bitOf .b3 .b
  | .bit_3_C => .bitOf .b3 .c
  | .bit_3_D => .bitOf .b3 .d
  | .bit_3_E => .bitOf .b3 .e
  | .bit_3_H => .bitOf .b3 .h
  | .bit_3_L => .bitOf .b3 .l
  | .bit_3_mHL => .bitOf .b3 .mHL
  | .bit_3_A => .bitOf .b3 .a
  | .bit_4_B => .bitOf .b4 .b
  | .bit_4_C => .bitOf .b4 .c
  | .bit_4_D => .bitOf .b4 .d
  | .bit_4_E => .bitOf .b4 .e
  | .bit_4_H => .bitOf .b4 .h
  | .bit_4_L => .bitOf .b4 .l
  | .bit_4_mHL => .bitOf .b4 .mHL
  | .bit_4_A => .bitOf .b4 .a
  | .bit_5_B => .bitOf .b5 .b
  | .bit_5_C => .bitOf .b5 .c
  | .bit_5_D => .bitOf .b5 .d
  | .bit_5_E => .bitOf .b5 .e
  | .bit_5_H => .bitOf .b5 .h
  | .bit_5_L => .bitOf .b5 .l
  | .bit_5_mHL => .bitOf .b5 .mHL
  | .bit_5_A => .bitOf .b5 .a
  | .bit_6_B => .bitOf .b6 .b
  | .bit_6_C => .bitOf .b6 .c
  | .bit_6_D => .bitOf .b6 .d
  | .bit_6_E => .bitOf .b6 .e
  | .bit_6_H => .bitOf .b6 .h
  | .bit_6_L => .bitOf .b6 .l
  | .bit_6_mHL => .bitOf .b6 .mHL
  | .bit_6_A => .bitOf .b6 .a
  | .bit_7_B => .bitOf .b7 .b
  | .bit_7_C => .bitOf .b7 .c
  | .bit_7_D => .bitOf .b7 .d
  | .bit_7_E => .bitOf .b7 .e
  | .bit_7_H => .bitOf .b7 .h
  | .bit_7_L => .bitOf .b7 .l
  | .bit_7_mHL => .bitOf .b7 .mHL
  | .bit_7_A => .bitOf .b7 .a
  | .res_0_B => .resOf .b0 .b
  | .res_0_C => .resOf .b0 .c
  | .res_0_D => .resOf .b0 .d
  | .res_0_E => .resOf .b0 .e
  | .res_0_H => .resOf .b0 .h
  | .res_0_L => .resOf .b0 .l
  | .res_0_mHL => .resOf .b0 .mHL
  | .res_0_A => .resOf .b0 .a
  | .res_1_B => .resOf .b1 .b
  | .res_1_C => .resOf .b1 .c
  | .res_1_D => .resOf .b1 .d
  | .res_1_E => .resOf .b1 .e
  | .res_1_H => .resOf .b1 .h
  | .res_1_L => .resOf .b1 .l
  | .res_1_mHL => .resOf .b1 .mHL
  | .res_1_A => .resOf .b1 .a
  | .res_2_B => .resOf .b2 .b
  | .res_2_C => .resOf .b2 .c
  | .res_2_D => .resOf .b2 .d
  | .res_2_E => .resOf .b2 .e
  | .res_2_H => .resOf .b2 .h
  | .res_2_L => .resOf .b2 .l
  | .res_2_mHL => .resOf .b2 .mHL
  | .res_2_A => .resOf .b2 .a
  | .res_3_B => .resOf .b3 .b
  | .res_3_C => .resOf .b3 .c
  | .res_3_D => .resOf .b3 .d
  | .res_3_E => .resOf .b3 .e
  | .res_3_H => .resOf .b3 .h
  | .res_3_L => .resOf .b3 .l
  | .res_3_mHL => .resOf .b3 .mHL
  | .res_3_A => .resOf .b3 .a
  | .res_4_B => .resOf .b4 .b
  | .res_4_C => .resOf .b4 .c
  | .res_4_D => .resOf .b4 .d
  | .res_4_E => .resOf .b4 .e
  | .res_4_H => .resOf .b4 .h
  | .res_4_L => .resOf .b4 .l
  | .res_4_mHL => .resOf .b4 .mHL
  | .res_4_A => .resOf .b4 .a
  | .res_5_B => .resOf .b5 .b
  | .res_5_C => .resOf .b5 .c
  | .res_5_D => .resOf .b5 .d
  | .res_5_E => .resOf .b5 .e
  | .res_5_H => .resOf .b5 .h
  | .res_5_L => .resOf .b5 .l
  | .res_5_mHL => .resOf .b5 .mHL
  | .res_5_A => .resOf .b5 .a
  | .res_6_B => .resOf .b6 .b
  | .res_6_C => .resOf .b6 .c
  | .res_6_D => .resOf .b6 .d
  | .res_6_E => .resOf .b6 .e
  | .res_6_H => .resOf .b6 .h
  | .res_6_L => .resOf .b6 .l
  | .res_6_mHL => .resOf .b6 .mHL
  | .res_6_A => .resOf .b6 .a
  | .res_7_B => .resOf .b7 .b
  | .res_7_C => .resOf .b7 .c
  | .res_7_D => .resOf .b7 .d
  | .res_7_E => .resOf .b7 .e
  | .res_7_H => .resOf .b7 .h
  | .res_7_L => .resOf .b7 .l
  | .res_7_mHL => .resOf .b7 .mHL
  | .res_7_A => .resOf .b7 .a
  | .set_0_B => .setOf .b0 .b
  | .set_0_C => .setOf .b0 .c
  | .set_0_D => .setOf .b0 .d
  | .set_0_E => .setOf .b0 .e
  | .set_0_H => .setOf .b0 .h
  | .set_0_L => .setOf .b0 .l
  | .set_0_mHL => .setOf .b0 .mHL
  | .set_0_A => .setOf .b0 .a
  | .set_1_B => .setOf .b1 .b
  | .set_1_C => .setOf .b1 .c
  | .set_1_D => .setOf .b1 .d
  | .set_1_E => .setOf .b1 .e
  | .set_1_H => .setOf .b1 .h
  | .set_1_L => .setOf .b1 .l
  | .set_1_mHL => .setOf .b1 .mHL
  | .set_1_A => .setOf .b1 .a
  | .set_2_B => .setOf .b2 .b
  | .set_2_C => .setOf .b2 .c
  | .set_2_D => .setOf .b2 .d
  | .set_2_E => .setOf .b2 .e
  | .set_2_H => .setOf .b2 .h
  | .set_2_L => .setOf .b2 .l
  | .set_2_mHL => .setOf .b2 .mHL
  | .set_2_A => .setOf .b2 .a
  | .set_3_B => .setOf .b3 .b
  | .set_3_C => .setOf .b3 .c
  | .set_3_D => .setOf .b3 .d
  | .set_3_E => .setOf .b3 .e
  | .set_3_H => .setOf .b3 .h
  | .set_3_L => .setOf .b3 .l
  | .set_3_mHL => .setOf .b3 .mHL
  | .set_3_A => .setOf .b3 .a
  | .set_4_B => .setOf .b4 .b
  | .set_4_C => .setOf .b4 .c
  | .set_4_D => .setOf .b4 .d
  | .set_4_E => .setOf .b4 .e
  | .set_4_H => .setOf .b4 .h
  | .set_4_L => .setOf .b4 .l
  | .set_4_mHL => .setOf .b4 .mHL
  | .set_4_A => .setOf .b4 .a
  | .set_5_B => .setOf .b5 .b
  | .set_5_C => .setOf .b5 .c
  | .set_5_D => .setOf .b5 .d
  | .set_5_E => .setOf .b5 .e
  | .set_5_H => .setOf .b5 .h
  | .set_5_L => .setOf .b5 .l
  | .set_5_mHL => .setOf .b5 .mHL
  | .set_5_A => .setOf .b5 .a
  | .set_6_B => .setOf .b6 .b
  | .set_6_C => .setOf .b6 .c
  | .set_6_D => .setOf .b6 .d
  | .set_6_E => .setOf .b6 .e
  | .set_6_H => .setOf .b6 .h
  | .set_6_L => .setOf .b6 .l
  | .set_6_mHL => .setOf .b6 .mHL
  | .set_6_A => .setOf .b6 .a
  | .set_7_B => .setOf .b7 .b
  | .set_7_C => .setOf .b7 .c
  | .set_7_D => .setOf .b7 .d
  | .set_7_E => .setOf .b7 .e
  | .set_7_H => .setOf .b7 .h
  | .set_7_L => .setOf .b7 .l
  | .set_7_mHL => .setOf .b7 .mHL
  | .set_7_A => .setOf .b7 .a

/-! What `exec` does with each form. -/

section exec

variable (s : State)

theorem exec_ld8 (k : Operand8) (o : Operand8) (h : ¬(k = .mHL ∧ o = .mHL)) : exec (.ld8 k o) s = ld8 k o s := by
  cases k <;> cases o <;> first | rfl | exact absurd ⟨rfl, rfl⟩ h

theorem exec_ld8Imm (k : Operand8) (v : Byte) : exec (.ld8Imm k v) s = s.writeOp8 k v := by
  cases k <;> rfl

theorem exec_ld16Imm (k : Reg16) (w : Word) : exec (.ld16Imm k w) s = .next (s.setR16 k w) := by
  cases k <;> rfl

theorem exec_pushOf (k : Stk16) : exec (.pushOf k) s = s.push16 (s.getStk k) := by
  cases k <;> rfl

theorem exec_popOf (k : Stk16) : exec (.popOf k) s = pop k s := by
  cases k <;> rfl

theorem exec_aluOf (k : AluOp) (o : Operand8) : exec (.aluOf k o) s = alu k o s := by
  cases k <;> cases o <;> rfl

theorem exec_aluImm (k : AluOp) (v : Byte) : exec (.aluImm k v) s = .next (accumulate k v s) := by
  cases k <;> rfl

theorem exec_inc8 (k : Operand8) : exec (.inc8 k) s = s.modify k incOut := by
  cases k <;> rfl

theorem exec_dec8 (k : Operand8) : exec (.dec8 k) s = s.modify k decOut := by
  cases k <;> rfl

theorem exec_addHL (k : Reg16) : exec (.addHL k) s = .next (addToHL (s.getR16 k) s) := by
  cases k <;> rfl

theorem exec_inc16 (k : Reg16) : exec (.inc16 k) s = .next (s.setR16 k (s.getR16 k + 1#16)) := by
  cases k <;> rfl

theorem exec_dec16 (k : Reg16) : exec (.dec16 k) s = .next (s.setR16 k (s.getR16 k - 1#16)) := by
  cases k <;> rfl

theorem exec_jpCond (k : Cond) (a : Word) : exec (.jpCond k a) s = .next (jumpIf k a s) := by
  cases k <;> rfl

theorem exec_jrCond (k : Cond) (e : Byte) : exec (.jrCond k e) s = .next (jumpIf k (relative s e) s) := by
  cases k <;> rfl

theorem exec_callCond (k : Cond) (a : Word) : exec (.callCond k a) s = callIf k a s := by
  cases k <;> rfl

theorem exec_retCond (k : Cond) : exec (.retCond k) s = retIf k s := by
  cases k <;> rfl

theorem exec_rstOf (k : RstTarget) : exec (.rstOf k) s = call k.address s := by
  cases k <;> rfl

theorem exec_rotOf (k : RotOp) (o : Operand8) : exec (.rotOf k o) s = s.modify o (rotOut k) := by
  cases k <;> cases o <;> rfl

theorem exec_bitOf (k : BitNum) (o : Operand8) : exec (.bitOf k o) s = bitTest k o s := by
  cases k <;> cases o <;> rfl

theorem exec_resOf (k : BitNum) (o : Operand8) : exec (.resOf k o) s = s.modify o (resOut k) := by
  cases k <;> cases o <;> rfl

theorem exec_setOf (k : BitNum) (o : Operand8) : exec (.setOf k o) s = s.modify o (setOut k) := by
  cases k <;> cases o <;> rfl

end exec

end Sys2Proof.Machine
end

