-- ==== Sys2Proof/Laws/Exec.lean ====
section
/-! SUPPORT. What no instruction does: the part of the state every instruction keeps. -/
namespace Sys2Proof.Machine

/-- What the CPU's instructions keep: the inputs, the display's and the timer's positions, `Ext` but for what a store or the
chip may change of it, and the canonical form of the memory. -/
structure Kept (s t : State) : Prop where
  wf : s.ext.mem.wf = true → t.ext.mem.wf = true
  ext : t.ext = { s.ext with mem := t.ext.mem, chip := { s.ext.chip with cells := t.ext.chip.cells } }
  mem : ∀ a : Word, s.ext.writeKind a ≠ .memory → t.ext.mem.read a.toNat = s.ext.mem.read a.toNat
  cells : s.ext.noChip → t.ext.chip.cells = s.ext.chip.cells
  timaAcc : t.timer.timaAcc = s.timer.timaAcc
  divAcc : t.timer.divAcc = s.timer.divAcc ∨ t.timer.divAcc = 0
  mode : t.lcd.mode = s.lcd.mode
  dot : t.lcd.dot = s.lcd.dot
  ly : t.lcd.ly = s.lcd.ly
  latch0 : t.lcd.latch0 = s.lcd.latch0
  latch1 : t.lcd.latch1 = s.lcd.latch1
  latch2 : t.lcd.latch2 = s.lcd.latch2
  latchL : t.lcd.latchL = s.lcd.latchL
  frame : t.lcd.frame = s.lcd.frame
  windowLine : t.lcd.windowLine = s.lcd.windowLine
  irqIn : t.irqIn = s.irqIn
  params : t.params = s.params

/-! Where no window names the chip, no address is the chip's. -/

theorem Ext.noChip.readKind {x : Ext} (h : x.noChip) (a : Word) : x.readKind a ≠ .chip := by
  unfold Ext.readKind
  split
  · exact (h _ (List.mem_of_find?_eq_some ‹_›)).1
  · simp

theorem Ext.noChip.writeKind {x : Ext} (h : x.noChip) (a : Word) : x.writeKind a ≠ .chip := by
  unfold Ext.writeKind
  split
  · exact (h _ (List.mem_of_find?_eq_some ‹_›)).2
  · split <;> simp

namespace Kept

theorem of_eq {s t : State} (hx : t.ext = s.ext) (ht : t.timer = s.timer) (hl : t.lcd = s.lcd) (hi : t.irqIn = s.irqIn)
    (hp : t.params = s.params) : Kept s t := by
  constructor <;> simp_all

/-- A chip's cells apart, `Ext` has changed only where a store reaches its bytes. -/
theorem kind {s t : State} (h : Kept s t) (a : Word) :
    t.ext.readKind a = s.ext.readKind a ∧ t.ext.writeKind a = s.ext.writeKind a := by rw [h.ext]; exact ⟨rfl, rfl⟩

theorem noChip {s t : State} (h : Kept s t) (hs : s.ext.noChip) : t.ext.noChip := by rw [h.ext]; exact hs

theorem refl (s : State) : Kept s s := of_eq rfl rfl rfl rfl rfl

theorem trans {s t u : State} (h : Kept s t) (k : Kept t u) : Kept s u where
  wf hs := k.wf (h.wf hs)
  ext := by rw [k.ext, h.ext]
  mem a ha := (k.mem a (by rwa [(h.kind a).2])).trans (h.mem a ha)
  cells hs := (k.cells (h.noChip hs)).trans (h.cells hs)
  timaAcc := k.timaAcc.trans h.timaAcc
  divAcc := by
    rcases k.divAcc with e | e
    · rw [e]; exact h.divAcc
    · exact .inr e
  mode := k.mode.trans h.mode
  dot := k.dot.trans h.dot
  ly := k.ly.trans h.ly
  latch0 := k.latch0.trans h.latch0
  latch1 := k.latch1.trans h.latch1
  latch2 := k.latch2.trans h.latch2
  latchL := k.latchL.trans h.latchL
  frame := k.frame.trans h.frame
  windowLine := k.windowLine.trans h.windowLine
  irqIn := k.irqIn.trans h.irqIn
  params := k.params.trans h.params

/-- Changing the chip's cells, where the chip is named for an address. -/
theorem withCells (s : State) (c : List Nat) (h : s.ext.noChip → c = s.ext.chip.cells) : Kept s (s.withCells c) :=
  { wf := id, ext := rfl, mem := fun _ _ => rfl, cells := h, timaAcc := rfl, divAcc := .inl rfl, mode := rfl, dot := rfl
    ly := rfl, latch0 := rfl, latch1 := rfl, latch2 := rfl, latchL := rfl, frame := rfl, windowLine := rfl
    irqIn := rfl, params := rfl }

theorem afterRead (s : State) (a : Word) : Kept s (s.afterRead a) := by
  rw [s.afterRead_eq a]
  refine withCells s _ fun h => ?_
  rw [s.afterRead_of_kind (h.readKind a)]

theorem busWrite (s : State) (a : Word) (v : Byte) : Kept s (s.busWrite a v) := by
  have e := s.busWrite_effect a v
  generalize s.busWrite a v = t at e
  cases e
  case bytes owned kind =>
    exact
      { wf := Memory.write_wf _ _ _ (by unfold Memory.size; omega)
        ext := rfl
        mem := fun b hb => Memory.read_write_other _ _ _ _ fun same => hb (BitVec.eq_of_toNat_eq same ▸ kind)
        cells := fun _ => rfl, timaAcc := rfl, divAcc := .inl rfl, mode := rfl, dot := rfl, ly := rfl, latch0 := rfl
        latch1 := rfl, latch2 := rfl, latchL := rfl, frame := rfl, windowLine := rfl, irqIn := rfl, params := rfl }
  case cells owned kind c => exact withCells s c fun hn => absurd kind (hn.writeKind a)
  all_goals
    exact
      { wf := id, ext := rfl, mem := fun _ _ => rfl, cells := fun _ => rfl, timaAcc := rfl
        divAcc := by first | exact .inl rfl | exact .inr rfl
        mode := rfl, dot := rfl, ly := rfl, latch0 := rfl, latch1 := rfl, latch2 := rfl, latchL := rfl, frame := rfl
        windowLine := rfl, irqIn := rfl, params := rfl }

end Kept

namespace State

/-! Register writes keep all of it, and the control state. -/

theorem kept_setR8 (s : State) (r : Reg8) (v : Byte) : Kept s (s.setR8 r v) := by cases r <;> exact Kept.of_eq rfl rfl rfl rfl rfl
theorem kept_setR16 (s : State) (r : Reg16) (v : Word) : Kept s (s.setR16 r v) := by cases r <;> exact Kept.of_eq rfl rfl rfl rfl rfl
theorem kept_setStk (s : State) (q : Stk16) (v : Word) : Kept s (s.setStk q v) := by cases q <;> exact Kept.of_eq rfl rfl rfl rfl rfl
theorem kept_setFlags (s : State) (f : Flags) : Kept s (s.setFlags f) := Kept.of_eq rfl rfl rfl rfl rfl
theorem kept_setPc (s : State) (v : Word) : Kept s (s.setPc v) := Kept.of_eq rfl rfl rfl rfl rfl
theorem kept_setSp (s : State) (v : Word) : Kept s (s.setSp v) := Kept.of_eq rfl rfl rfl rfl rfl

theorem kept_pushed (s : State) (v : Word) : Kept s (s.pushed v) :=
  ((Kept.busWrite s _ _).trans (Kept.busWrite _ _ _)).trans (kept_setSp _ _)

theorem sameControl_refl (s : State) : s.sameControl s := ⟨rfl, rfl, rfl, rfl, rfl, rfl⟩

theorem sameControl_trans {s t u : State} (h : s.sameControl t) (k : t.sameControl u) : s.sameControl u := by
  obtain ⟨a, b, c, d, e, f⟩ := h
  obtain ⟨a', b', c', d', e', f'⟩ := k
  exact ⟨a'.trans a, b'.trans b, c'.trans c, d'.trans d, e'.trans e, f'.trans f⟩

theorem sameControl_busWrite (s : State) (a : Word) (v : Byte) : s.sameControl (s.busWrite a v) := by
  simp [sameControl]

theorem sameControl_setR8 (s : State) (r : Reg8) (v : Byte) : s.sameControl (s.setR8 r v) := by simp [sameControl]
theorem sameControl_setR16 (s : State) (r : Reg16) (v : Word) : s.sameControl (s.setR16 r v) := by
  cases r <;> exact s.sameControl_refl
theorem sameControl_setStk (s : State) (q : Stk16) (v : Word) : s.sameControl (s.setStk q v) := by
  cases q <;> exact s.sameControl_refl
theorem sameControl_setFlags (s : State) (f : Flags) : s.sameControl (s.setFlags f) := s.sameControl_refl
theorem sameControl_setPc (s : State) (v : Word) : s.sameControl (s.setPc v) := s.sameControl_refl
theorem sameControl_setSp (s : State) (v : Word) : s.sameControl (s.setSp v) := s.sameControl_refl
theorem sameControl_pushed (s : State) (v : Word) : s.sameControl (s.pushed v) := by simp [sameControl]

/-- Both at once. -/
def Plain (s t : State) : Prop := Kept s t ∧ s.sameControl t

theorem Plain.refl (s : State) : s.Plain s := ⟨Kept.refl s, s.sameControl_refl⟩
theorem Plain.trans {s t u : State} (h : s.Plain t) (k : t.Plain u) : s.Plain u := ⟨h.1.trans k.1, sameControl_trans h.2 k.2⟩
theorem plain_busWrite (s : State) (a : Word) (v : Byte) : s.Plain (s.busWrite a v) := ⟨Kept.busWrite s a v, s.sameControl_busWrite a v⟩
theorem plain_afterRead (s : State) (a : Word) : s.Plain (s.afterRead a) := ⟨Kept.afterRead s a, by simp [sameControl]⟩
theorem plain_setR8 (s : State) (r : Reg8) (v : Byte) : s.Plain (s.setR8 r v) := ⟨s.kept_setR8 r v, s.sameControl_setR8 r v⟩
theorem plain_setR16 (s : State) (r : Reg16) (v : Word) : s.Plain (s.setR16 r v) := ⟨s.kept_setR16 r v, s.sameControl_setR16 r v⟩
theorem plain_setHL (s : State) (v : Word) : s.Plain (s.setHL v) := s.plain_setR16 .hl v
theorem plain_setStk (s : State) (q : Stk16) (v : Word) : s.Plain (s.setStk q v) := ⟨s.kept_setStk q v, s.sameControl_setStk q v⟩
theorem plain_setFlags (s : State) (f : Flags) : s.Plain (s.setFlags f) := ⟨s.kept_setFlags f, s.sameControl_setFlags f⟩
theorem plain_setPc (s : State) (v : Word) : s.Plain (s.setPc v) := ⟨s.kept_setPc v, s.sameControl_setPc v⟩
theorem plain_setSp (s : State) (v : Word) : s.Plain (s.setSp v) := ⟨s.kept_setSp v, s.sameControl_setSp v⟩
theorem plain_pushed (s : State) (v : Word) : s.Plain (s.pushed v) := ⟨s.kept_pushed v, s.sameControl_pushed v⟩

theorem plain_afterReads (s : State) (as : List Word) : s.Plain (s.afterReads as) := by
  induction as generalizing s with
  | nil => exact Plain.refl s
  | cons a as ih => exact (s.plain_afterRead a).trans (ih _)

theorem plain_memRead {s : State} {a : Word} {p : Byte × State} (h : s.memRead a = .next p) : s.Plain p.2 := by
  obtain ⟨-, rfl⟩ := memRead_eq_next.mp h
  exact s.plain_afterRead a

theorem plain_readOp8 {s : State} {o : Operand8} {p : Byte × State} (h : s.readOp8 o = .next p) : s.Plain p.2 := by
  rcases operand_cases o with rfl | ⟨r, rfl⟩
  · exact plain_memRead h
  · rw [readOp8_reg] at h
    cases h
    exact Plain.refl s

theorem plain_pop16 {s : State} {p : Word × State} (h : s.pop16 = .next p) : s.Plain p.2 := by
  obtain ⟨-, -, rfl⟩ := pop16_eq_next.mp h
  exact (s.plain_afterReads _).trans (plain_setSp _ _)

theorem plain_memWrite {s t : State} {a : Word} {v : Byte} (h : s.memWrite a v = .next t) : s.Plain t := by
  obtain ⟨-, rfl⟩ := memWrite_eq_next.mp h
  exact s.plain_busWrite a v

theorem plain_writeOp8 {s t : State} {o : Operand8} {v : Byte} (h : s.writeOp8 o v = .next t) : s.Plain t := by
  rcases operand_cases o with rfl | ⟨r, rfl⟩
  · exact plain_memWrite h
  · rw [writeOp8_reg] at h
    cases h
    exact s.plain_setR8 r v

theorem plain_modify {s t : State} {o : Operand8} {f : Byte → Flags → AluOut} (h : s.modify o f = .next t) : s.Plain t := by
  obtain ⟨p, hp, h⟩ := Result.andThen_eq_next.mp h
  obtain ⟨u, hu, h⟩ := Result.andThen_eq_next.mp h
  cases h
  exact ((plain_readOp8 hp).trans (plain_writeOp8 hu)).trans (u.plain_setFlags _)

theorem plain_modifyA {s t : State} {f : Byte → Flags → AluOut} (h : s.modifyA f = .next t) : s.Plain t := by
  cases h
  exact (s.plain_setR8 _ _).trans (plain_setFlags _ _)

theorem plain_loadA {s t : State} {a : Word} (h : s.loadA a = .next t) : s.Plain t := by
  obtain ⟨p, hp, h⟩ := Result.andThen_eq_next.mp h
  cases h
  exact (plain_memRead hp).trans (plain_setR8 _ _ _)

theorem plain_push16 {s t : State} {v : Word} (h : s.push16 v = .next t) : s.Plain t := by
  obtain ⟨-, -, rfl⟩ := push16_eq_next.mp h
  exact s.plain_pushed v

end State

open State

theorem plain_ld8 {s t : State} {k o : Operand8} (h : ld8 k o s = .next t) : s.Plain t := by
  obtain ⟨p, hp, h⟩ := Result.andThen_eq_next.mp h
  exact (plain_readOp8 hp).trans (plain_writeOp8 h)

theorem plain_loadStep {s t : State} {d : Word} (h : loadStep d s = .next t) : s.Plain t := by
  obtain ⟨p, hp, h⟩ := Result.andThen_eq_next.mp h
  cases h
  exact ((plain_memRead hp).trans (plain_setR8 _ _ _)).trans (plain_setHL _ _)

theorem plain_storeStep {s t : State} {d : Word} (h : storeStep d s = .next t) : s.Plain t := by
  obtain ⟨u, hu, h⟩ := Result.andThen_eq_next.mp h
  cases h
  exact (plain_memWrite hu).trans (plain_setHL _ _)

theorem plain_storeSP {s t : State} {a : Word} (h : storeSP a s = .next t) : s.Plain t := by
  obtain ⟨u, hu, h⟩ := Result.andThen_eq_next.mp h
  exact (plain_memWrite hu).trans (plain_memWrite h)

theorem plain_pop {s t : State} {q : Stk16} (h : pop q s = .next t) : s.Plain t := by
  obtain ⟨p, hp, h⟩ := Result.andThen_eq_next.mp h
  cases h
  exact (plain_pop16 hp).trans (plain_setStk _ _ _)

theorem plain_alu {s t : State} {k : AluOp} {o : Operand8} (h : alu k o s = .next t) : s.Plain t := by
  obtain ⟨p, hp, h⟩ := Result.andThen_eq_next.mp h
  cases h
  exact ((plain_readOp8 hp).trans (plain_setR8 _ _ _)).trans (plain_setFlags _ _)

theorem plain_bitTest {s t : State} {k : BitNum} {o : Operand8} (h : bitTest k o s = .next t) : s.Plain t := by
  obtain ⟨p, hp, h⟩ := Result.andThen_eq_next.mp h
  cases h
  exact (plain_readOp8 hp).trans (plain_setFlags _ _)

theorem plain_jumpIf (s : State) (k : Cond) (a : Word) : s.Plain (jumpIf k a s) := by
  unfold jumpIf
  split
  · exact s.plain_setPc a
  · exact Plain.refl s

theorem plain_call {s t : State} {a : Word} (h : call a s = .next t) : s.Plain t := by
  obtain ⟨u, hu, h⟩ := Result.andThen_eq_next.mp h
  cases h
  exact (plain_push16 hu).trans (plain_setPc _ _)

theorem plain_callIf {s t : State} {k : Cond} {a : Word} (h : callIf k a s = .next t) : s.Plain t := by
  unfold callIf at h
  split at h
  · exact plain_call h
  · cases h; exact Plain.refl s

theorem plain_ret {s t : State} (h : ret s = .next t) : s.Plain t := by
  obtain ⟨p, hp, h⟩ := Result.andThen_eq_next.mp h
  cases h
  exact (plain_pop16 hp).trans (plain_setPc _ _)

theorem plain_retIf {s t : State} {k : Cond} (h : retIf k s = .next t) : s.Plain t := by
  unfold retIf at h
  split at h
  · exact plain_ret h
  · cases h; exact Plain.refl s

/-- Every instruction but HALT, DI, EI and RETI keeps the control state, and every instruction keeps what `Kept` lists. -/
theorem exec_plain {i : Instr} {s t : State} (h : exec i s = .next t) :
    Kept s t ∧ (i ≠ .halt → i ≠ .di → i ≠ .ei → i ≠ .reti → s.sameControl t) := by
  suffices (i ≠ .halt → i ≠ .di → i ≠ .ei → i ≠ .reti → s.Plain t) ∧
      (i = .halt ∨ i = .di ∨ i = .ei ∨ i = .reti → Kept s t) by
    refine ⟨?_, fun a b c d => (this.1 a b c d).2⟩
    by_cases a : i = .halt ∨ i = .di ∨ i = .ei ∨ i = .reti
    · exact this.2 a
    · simp only [not_or] at a
      exact (this.1 a.1 a.2.1 a.2.2.1 a.2.2.2).1
  refine ⟨fun nh nd ne nr => ?_, ?_⟩
  · cases form i with
    | ld8 k o hk => rw [exec_ld8 s k o hk] at h; exact plain_ld8 h
    | ld8Imm k v => rw [exec_ld8Imm] at h; exact plain_writeOp8 h
    | ld16Imm k w => rw [exec_ld16Imm] at h; cases h; exact s.plain_setR16 k w
    | pushOf k => rw [exec_pushOf] at h; exact plain_push16 h
    | popOf k => rw [exec_popOf] at h; exact plain_pop h
    | aluOf k o => rw [exec_aluOf] at h; exact plain_alu h
    | aluImm k v => rw [exec_aluImm] at h; cases h; exact (s.plain_setR8 _ _).trans (plain_setFlags _ _)
    | inc8 k => rw [exec_inc8] at h; exact plain_modify h
    | dec8 k => rw [exec_dec8] at h; exact plain_modify h
    | addHL k => rw [exec_addHL] at h; cases h; exact (s.plain_setHL _).trans (plain_setFlags _ _)
    | inc16 k => rw [exec_inc16] at h; cases h; exact s.plain_setR16 k _
    | dec16 k => rw [exec_dec16] at h; cases h; exact s.plain_setR16 k _
    | jpCond k a => rw [exec_jpCond] at h; cases h; exact plain_jumpIf s k a
    | jrCond k e => rw [exec_jrCond] at h; cases h; exact plain_jumpIf s k _
    | callCond k a => rw [exec_callCond] at h; exact plain_callIf h
    | retCond k => rw [exec_retCond] at h; exact plain_retIf h
    | rstOf k => rw [exec_rstOf] at h; exact plain_call h
    | rotOf k o => rw [exec_rotOf] at h; exact plain_modify h
    | bitOf k o => rw [exec_bitOf] at h; exact plain_bitTest h
    | resOf k o => rw [exec_resOf] at h; exact plain_modify h
    | setOf k o => rw [exec_setOf] at h; exact plain_modify h
    | ld_ma16_SP a => exact plain_storeSP h
    | stop v =>
      have h : stop s = .next t := h
      unfold stop at h
      split at h <;> cases h
      exact Plain.refl s
    | jr_e8 e => cases h; exact s.plain_setPc _
    | jp_a16 a => cases h; exact s.plain_setPc a
    | call_a16 a => exact plain_call h
    | ldh_ma8_A n => exact plain_memWrite h
    | add_SP_e8 e => cases h; exact (s.plain_setSp _).trans (plain_setFlags _ _)
    | ld_ma16_A a => exact plain_memWrite h
    | ldh_A_ma8 n => exact plain_loadA h
    | ld_HL_SPe8 e => cases h; exact (s.plain_setHL _).trans (plain_setFlags _ _)
    | ld_A_ma16 a => exact plain_loadA h
    | nop => cases h; exact Plain.refl s
    | ld_mBC_A => exact plain_memWrite h
    | rlca => exact plain_modifyA h
    | ld_A_mBC => exact plain_loadA h
    | rrca => exact plain_modifyA h
    | ld_mDE_A => exact plain_memWrite h
    | rla => exact plain_modifyA h
    | ld_A_mDE => exact plain_loadA h
    | rra => exact plain_modifyA h
    | ld_mHLi_A => exact plain_storeStep h
    | daa => exact plain_modifyA h
    | ld_A_mHLi => exact plain_loadStep h
    | cpl => cases h; exact (s.plain_setR8 _ _).trans (plain_setFlags _ _)
    | ld_mHLd_A => exact plain_storeStep h
    | scf => cases h; exact s.plain_setFlags _
    | ld_A_mHLd => exact plain_loadStep h
    | ccf => cases h; exact s.plain_setFlags _
    | halt => exact absurd rfl nh
    | ret => exact plain_ret h
    | reti => exact absurd rfl nr
    | ldh_mC_A => exact plain_memWrite h
    | jp_HL => cases h; exact s.plain_setPc _
    | ldh_A_mC => exact plain_loadA h
    | di => exact absurd rfl nd
    | ld_SP_HL => cases h; exact s.plain_setSp _
    | ei => exact absurd rfl ne
    | undefined i op hw he => rw [he] at h; cases h
  · rintro (rfl | rfl | rfl | rfl)
    · have h : halt s = .next t := h
      unfold halt at h
      split at h
      · obtain ⟨p, hp, h⟩ := Result.andThen_eq_next.mp h
        cases h; exact (plain_memRead hp).1.trans (Kept.of_eq rfl rfl rfl rfl rfl)
      · cases h; exact Kept.of_eq rfl rfl rfl rfl rfl
    · cases h; exact Kept.of_eq rfl rfl rfl rfl rfl
    · have h : Host.Outcome.next (enableInterrupts s) = .next t := h
      cases h
      unfold enableInterrupts
      split <;> exact Kept.of_eq rfl rfl rfl rfl rfl
    · obtain ⟨p, hp, h⟩ := Result.andThen_eq_next.mp (show s.returnFromInterrupt = .next t from h)
      cases h; exact (plain_pop16 hp).1.trans (Kept.of_eq rfl rfl rfl rfl rfl)

end Sys2Proof.Machine
end

