-- ==== Sys2Proof/Laws/Tick.lean ====
section
/-! SUPPORT. What the peripherals' ticks leave alone, and the ranges they keep. -/
namespace Sys2Proof.Machine

namespace State

variable (s : State)

/-! The display's tick leaves the CPU and the timer alone. -/

@[simp] theorem statEval_regs : (s.statEval).regs = s.regs := by unfold statEval; split <;> rfl
@[simp] theorem statEval_flags : (s.statEval).flags = s.flags := by unfold statEval; split <;> rfl
@[simp] theorem statEval_sp : (s.statEval).sp = s.sp := by unfold statEval; split <;> rfl
@[simp] theorem statEval_pc : (s.statEval).pc = s.pc := by unfold statEval; split <;> rfl
@[simp] theorem statEval_ime : (s.statEval).ime = s.ime := by unfold statEval; split <;> rfl
@[simp] theorem statEval_imePending : (s.statEval).imePending = s.imePending := by unfold statEval; split <;> rfl
@[simp] theorem statEval_halted : (s.statEval).halted = s.halted := by unfold statEval; split <;> rfl
@[simp] theorem statEval_hq : (s.statEval).hq = s.hq := by unfold statEval; split <;> rfl
@[simp] theorem statEval_ie : (s.statEval).ie = s.ie := by unfold statEval; split <;> rfl
@[simp] theorem statEval_ext : (s.statEval).ext = s.ext := by unfold statEval; split <;> rfl
@[simp] theorem statEval_irqIn : (s.statEval).irqIn = s.irqIn := by unfold statEval; split <;> rfl
@[simp] theorem statEval_params : (s.statEval).params = s.params := by unfold statEval; split <;> rfl
@[simp] theorem statEval_timer : (s.statEval).timer = s.timer := by unfold statEval; split <;> rfl

@[simp] theorem endHBlank_regs : (s.endHBlank).regs = s.regs := by unfold endHBlank; split <;> simp
@[simp] theorem endHBlank_flags : (s.endHBlank).flags = s.flags := by unfold endHBlank; split <;> simp
@[simp] theorem endHBlank_sp : (s.endHBlank).sp = s.sp := by unfold endHBlank; split <;> simp
@[simp] theorem endHBlank_pc : (s.endHBlank).pc = s.pc := by unfold endHBlank; split <;> simp
@[simp] theorem endHBlank_ime : (s.endHBlank).ime = s.ime := by unfold endHBlank; split <;> simp
@[simp] theorem endHBlank_imePending : (s.endHBlank).imePending = s.imePending := by unfold endHBlank; split <;> simp
@[simp] theorem endHBlank_halted : (s.endHBlank).halted = s.halted := by unfold endHBlank; split <;> simp
@[simp] theorem endHBlank_hq : (s.endHBlank).hq = s.hq := by unfold endHBlank; split <;> simp
@[simp] theorem endHBlank_ie : (s.endHBlank).ie = s.ie := by unfold endHBlank; split <;> simp
@[simp] theorem endHBlank_ext : (s.endHBlank).ext = s.ext := by unfold endHBlank; split <;> simp
@[simp] theorem endHBlank_irqIn : (s.endHBlank).irqIn = s.irqIn := by unfold endHBlank; split <;> simp
@[simp] theorem endHBlank_params : (s.endHBlank).params = s.params := by unfold endHBlank; split <;> simp
@[simp] theorem endHBlank_timer : (s.endHBlank).timer = s.timer := by unfold endHBlank; split <;> simp

@[simp] theorem endVBlankLine_regs : (s.endVBlankLine).regs = s.regs := by unfold endVBlankLine; split <;> simp
@[simp] theorem endVBlankLine_flags : (s.endVBlankLine).flags = s.flags := by unfold endVBlankLine; split <;> simp
@[simp] theorem endVBlankLine_sp : (s.endVBlankLine).sp = s.sp := by unfold endVBlankLine; split <;> simp
@[simp] theorem endVBlankLine_pc : (s.endVBlankLine).pc = s.pc := by unfold endVBlankLine; split <;> simp
@[simp] theorem endVBlankLine_ime : (s.endVBlankLine).ime = s.ime := by unfold endVBlankLine; split <;> simp
@[simp] theorem endVBlankLine_imePending : (s.endVBlankLine).imePending = s.imePending := by unfold endVBlankLine; split <;> simp
@[simp] theorem endVBlankLine_halted : (s.endVBlankLine).halted = s.halted := by unfold endVBlankLine; split <;> simp
@[simp] theorem endVBlankLine_hq : (s.endVBlankLine).hq = s.hq := by unfold endVBlankLine; split <;> simp
@[simp] theorem endVBlankLine_ie : (s.endVBlankLine).ie = s.ie := by unfold endVBlankLine; split <;> simp
@[simp] theorem endVBlankLine_ext : (s.endVBlankLine).ext = s.ext := by unfold endVBlankLine; split <;> simp
@[simp] theorem endVBlankLine_irqIn : (s.endVBlankLine).irqIn = s.irqIn := by unfold endVBlankLine; split <;> simp
@[simp] theorem endVBlankLine_params : (s.endVBlankLine).params = s.params := by unfold endVBlankLine; split <;> simp
@[simp] theorem endVBlankLine_timer : (s.endVBlankLine).timer = s.timer := by unfold endVBlankLine; split <;> simp

@[simp] theorem lcdAdvance_regs : (s.lcdAdvance).regs = s.regs := by
  unfold lcdAdvance; split <;> split <;> simp [endOamSearch, endPixelTransfer, countDot]
@[simp] theorem lcdAdvance_flags : (s.lcdAdvance).flags = s.flags := by
  unfold lcdAdvance; split <;> split <;> simp [endOamSearch, endPixelTransfer, countDot]
@[simp] theorem lcdAdvance_sp : (s.lcdAdvance).sp = s.sp := by
  unfold lcdAdvance; split <;> split <;> simp [endOamSearch, endPixelTransfer, countDot]
@[simp] theorem lcdAdvance_pc : (s.lcdAdvance).pc = s.pc := by
  unfold lcdAdvance; split <;> split <;> simp [endOamSearch, endPixelTransfer, countDot]
@[simp] theorem lcdAdvance_ime : (s.lcdAdvance).ime = s.ime := by
  unfold lcdAdvance; split <;> split <;> simp [endOamSearch, endPixelTransfer, countDot]
@[simp] theorem lcdAdvance_imePending : (s.lcdAdvance).imePending = s.imePending := by
  unfold lcdAdvance; split <;> split <;> simp [endOamSearch, endPixelTransfer, countDot]
@[simp] theorem lcdAdvance_halted : (s.lcdAdvance).halted = s.halted := by
  unfold lcdAdvance; split <;> split <;> simp [endOamSearch, endPixelTransfer, countDot]
@[simp] theorem lcdAdvance_hq : (s.lcdAdvance).hq = s.hq := by
  unfold lcdAdvance; split <;> split <;> simp [endOamSearch, endPixelTransfer, countDot]
@[simp] theorem lcdAdvance_ie : (s.lcdAdvance).ie = s.ie := by
  unfold lcdAdvance; split <;> split <;> simp [endOamSearch, endPixelTransfer, countDot]
@[simp] theorem lcdAdvance_ext : (s.lcdAdvance).ext = s.ext := by
  unfold lcdAdvance; split <;> split <;> simp [endOamSearch, endPixelTransfer, countDot]
@[simp] theorem lcdAdvance_irqIn : (s.lcdAdvance).irqIn = s.irqIn := by
  unfold lcdAdvance; split <;> split <;> simp [endOamSearch, endPixelTransfer, countDot]
@[simp] theorem lcdAdvance_params : (s.lcdAdvance).params = s.params := by
  unfold lcdAdvance; split <;> split <;> simp [endOamSearch, endPixelTransfer, countDot]
@[simp] theorem lcdAdvance_timer : (s.lcdAdvance).timer = s.timer := by
  unfold lcdAdvance; split <;> split <;> simp [endOamSearch, endPixelTransfer, countDot]

@[simp] theorem lcdStep_regs : (s.lcdStep).regs = s.regs := by unfold lcdStep; split <;> simp
@[simp] theorem lcdStep_flags : (s.lcdStep).flags = s.flags := by unfold lcdStep; split <;> simp
@[simp] theorem lcdStep_sp : (s.lcdStep).sp = s.sp := by unfold lcdStep; split <;> simp
@[simp] theorem lcdStep_pc : (s.lcdStep).pc = s.pc := by unfold lcdStep; split <;> simp
@[simp] theorem lcdStep_ime : (s.lcdStep).ime = s.ime := by unfold lcdStep; split <;> simp
@[simp] theorem lcdStep_imePending : (s.lcdStep).imePending = s.imePending := by unfold lcdStep; split <;> simp
@[simp] theorem lcdStep_halted : (s.lcdStep).halted = s.halted := by unfold lcdStep; split <;> simp
@[simp] theorem lcdStep_hq : (s.lcdStep).hq = s.hq := by unfold lcdStep; split <;> simp
@[simp] theorem lcdStep_ie : (s.lcdStep).ie = s.ie := by unfold lcdStep; split <;> simp
@[simp] theorem lcdStep_ext : (s.lcdStep).ext = s.ext := by unfold lcdStep; split <;> simp
@[simp] theorem lcdStep_irqIn : (s.lcdStep).irqIn = s.irqIn := by unfold lcdStep; split <;> simp
@[simp] theorem lcdStep_params : (s.lcdStep).params = s.params := by unfold lcdStep; split <;> simp
@[simp] theorem lcdStep_timer : (s.lcdStep).timer = s.timer := by unfold lcdStep; split <;> simp

/-! No tick stores to LCDC, so a display that runs goes on running and one that stands still goes on standing. -/

@[simp] theorem statEval_lcdc : s.statEval.lcd.lcdc = s.lcd.lcdc := by unfold statEval; split <;> rfl
@[simp] theorem endHBlank_lcdc : s.endHBlank.lcd.lcdc = s.lcd.lcdc := by unfold endHBlank; split <;> exact statEval_lcdc _
@[simp] theorem endVBlankLine_lcdc : s.endVBlankLine.lcd.lcdc = s.lcd.lcdc := by
  unfold endVBlankLine; split <;> exact statEval_lcdc _
@[simp] theorem lcdAdvance_lcdc : s.lcdAdvance.lcd.lcdc = s.lcd.lcdc := by
  unfold lcdAdvance; split <;> split <;> first | rfl | simp [endOamSearch, endPixelTransfer, countDot]
@[simp] theorem lcdStep_lcdc : s.lcdStep.lcd.lcdc = s.lcd.lcdc := by unfold lcdStep; split <;> simp
@[simp] theorem lcdStep_lcdRuns : s.lcdStep.lcdRuns = s.lcdRuns := by simp [lcdRuns, displayOn]

theorem lcdStep_of_runs {s : State} (h : s.lcdRuns = true) : s.lcdStep = s.lcdAdvance := by rw [lcdStep, if_pos h]
theorem lcdStep_of_stands {s : State} (h : s.lcdRuns = false) : s.lcdStep = s := by simp [lcdStep, h]

/-! The timer's tick leaves the CPU and the display alone. -/

@[simp] theorem timerStep_regs : (s.timerStep).regs = s.regs := by unfold timerStep; split <;> rfl
@[simp] theorem timerStep_flags : (s.timerStep).flags = s.flags := by unfold timerStep; split <;> rfl
@[simp] theorem timerStep_sp : (s.timerStep).sp = s.sp := by unfold timerStep; split <;> rfl
@[simp] theorem timerStep_pc : (s.timerStep).pc = s.pc := by unfold timerStep; split <;> rfl
@[simp] theorem timerStep_ime : (s.timerStep).ime = s.ime := by unfold timerStep; split <;> rfl
@[simp] theorem timerStep_imePending : (s.timerStep).imePending = s.imePending := by unfold timerStep; split <;> rfl
@[simp] theorem timerStep_halted : (s.timerStep).halted = s.halted := by unfold timerStep; split <;> rfl
@[simp] theorem timerStep_hq : (s.timerStep).hq = s.hq := by unfold timerStep; split <;> rfl
@[simp] theorem timerStep_ie : (s.timerStep).ie = s.ie := by unfold timerStep; split <;> rfl
@[simp] theorem timerStep_ext : (s.timerStep).ext = s.ext := by unfold timerStep; split <;> rfl
@[simp] theorem timerStep_irqIn : (s.timerStep).irqIn = s.irqIn := by unfold timerStep; split <;> rfl
@[simp] theorem timerStep_params : (s.timerStep).params = s.params := by unfold timerStep; split <;> rfl
@[simp] theorem timerStep_lcd : (s.timerStep).lcd = s.lcd := by unfold timerStep; split <;> rfl

@[simp] theorem timerStep_timer : (s.timerStep).timer = s.timer.divTick.counterTick := by unfold timerStep; split <;> rfl

/-! Both together, any number of times. -/

@[simp] theorem tick_regs : (s.tick).regs = s.regs := by simp [tick]
@[simp] theorem tick_flags : (s.tick).flags = s.flags := by simp [tick]
@[simp] theorem tick_sp : (s.tick).sp = s.sp := by simp [tick]
@[simp] theorem tick_pc : (s.tick).pc = s.pc := by simp [tick]
@[simp] theorem tick_ime : (s.tick).ime = s.ime := by simp [tick]
@[simp] theorem tick_imePending : (s.tick).imePending = s.imePending := by simp [tick]
@[simp] theorem tick_halted : (s.tick).halted = s.halted := by simp [tick]
@[simp] theorem tick_hq : (s.tick).hq = s.hq := by simp [tick]
@[simp] theorem tick_ie : (s.tick).ie = s.ie := by simp [tick]
@[simp] theorem tick_ext : (s.tick).ext = s.ext := by simp [tick]
@[simp] theorem tick_irqIn : (s.tick).irqIn = s.irqIn := by simp [tick]
@[simp] theorem tick_params : (s.tick).params = s.params := by simp [tick]

@[simp] theorem tick_lcd : s.tick.lcd = s.lcdStep.lcd := by simp [tick]
@[simp] theorem tick_timer : s.tick.timer = s.timer.divTick.counterTick := by simp [tick]

@[simp] theorem ticks_regs (n : Nat) : (ticks n s).regs = s.regs := by
  induction n generalizing s with
  | zero => rfl
  | succ n ih => exact (ih s.tick).trans (tick_regs s)
@[simp] theorem ticks_flags (n : Nat) : (ticks n s).flags = s.flags := by
  induction n generalizing s with
  | zero => rfl
  | succ n ih => exact (ih s.tick).trans (tick_flags s)
@[simp] theorem ticks_sp (n : Nat) : (ticks n s).sp = s.sp := by
  induction n generalizing s with
  | zero => rfl
  | succ n ih => exact (ih s.tick).trans (tick_sp s)
@[simp] theorem ticks_pc (n : Nat) : (ticks n s).pc = s.pc := by
  induction n generalizing s with
  | zero => rfl
  | succ n ih => exact (ih s.tick).trans (tick_pc s)
@[simp] theorem ticks_ime (n : Nat) : (ticks n s).ime = s.ime := by
  induction n generalizing s with
  | zero => rfl
  | succ n ih => exact (ih s.tick).trans (tick_ime s)
@[simp] theorem ticks_imePending (n : Nat) : (ticks n s).imePending = s.imePending := by
  induction n generalizing s with
  | zero => rfl
  | succ n ih => exact (ih s.tick).trans (tick_imePending s)
@[simp] theorem ticks_halted (n : Nat) : (ticks n s).halted = s.halted := by
  induction n generalizing s with
  | zero => rfl
  | succ n ih => exact (ih s.tick).trans (tick_halted s)
@[simp] theorem ticks_hq (n : Nat) : (ticks n s).hq = s.hq := by
  induction n generalizing s with
  | zero => rfl
  | succ n ih => exact (ih s.tick).trans (tick_hq s)
@[simp] theorem ticks_ie (n : Nat) : (ticks n s).ie = s.ie := by
  induction n generalizing s with
  | zero => rfl
  | succ n ih => exact (ih s.tick).trans (tick_ie s)
@[simp] theorem ticks_ext (n : Nat) : (ticks n s).ext = s.ext := by
  induction n generalizing s with
  | zero => rfl
  | succ n ih => exact (ih s.tick).trans (tick_ext s)
@[simp] theorem ticks_irqIn (n : Nat) : (ticks n s).irqIn = s.irqIn := by
  induction n generalizing s with
  | zero => rfl
  | succ n ih => exact (ih s.tick).trans (tick_irqIn s)
@[simp] theorem ticks_params (n : Nat) : (ticks n s).params = s.params := by
  induction n generalizing s with
  | zero => rfl
  | succ n ih => exact (ih s.tick).trans (tick_params s)

/-- A property of the display and the timer that every tick keeps, `n` ticks keep. -/
theorem ticks_keep (P : State → Prop) (h : ∀ s, P s → P s.tick) (n : Nat) (s : State) (hs : P s) : P (ticks n s) := by
  induction n generalizing s with
  | zero => exact hs
  | succ n ih => exact ih s.tick (h s hs)

@[simp] theorem statEval_lcd : s.statEval.lcd = s.lcd.evalLatches := by unfold statEval; split <;> rfl

/-! The external requests touch the request bits and the schedule alone. -/

@[simp] theorem raiseExternal_regs : s.raiseExternal.regs = s.regs := by
  unfold raiseExternal
  split
  · rfl
  · simp only; split_ifs <;> rfl
@[simp] theorem raiseExternal_flags : s.raiseExternal.flags = s.flags := by
  unfold raiseExternal
  split
  · rfl
  · simp only; split_ifs <;> rfl
@[simp] theorem raiseExternal_sp : s.raiseExternal.sp = s.sp := by
  unfold raiseExternal
  split
  · rfl
  · simp only; split_ifs <;> rfl
@[simp] theorem raiseExternal_pc : s.raiseExternal.pc = s.pc := by
  unfold raiseExternal
  split
  · rfl
  · simp only; split_ifs <;> rfl
@[simp] theorem raiseExternal_ime : s.raiseExternal.ime = s.ime := by
  unfold raiseExternal
  split
  · rfl
  · simp only; split_ifs <;> rfl
@[simp] theorem raiseExternal_imePending : s.raiseExternal.imePending = s.imePending := by
  unfold raiseExternal
  split
  · rfl
  · simp only; split_ifs <;> rfl
@[simp] theorem raiseExternal_halted : s.raiseExternal.halted = s.halted := by
  unfold raiseExternal
  split
  · rfl
  · simp only; split_ifs <;> rfl
@[simp] theorem raiseExternal_hq : s.raiseExternal.hq = s.hq := by
  unfold raiseExternal
  split
  · rfl
  · simp only; split_ifs <;> rfl
@[simp] theorem raiseExternal_ie : s.raiseExternal.ie = s.ie := by
  unfold raiseExternal
  split
  · rfl
  · simp only; split_ifs <;> rfl
@[simp] theorem raiseExternal_ext : s.raiseExternal.ext = s.ext := by
  unfold raiseExternal
  split
  · rfl
  · simp only; split_ifs <;> rfl
@[simp] theorem raiseExternal_params : s.raiseExternal.params = s.params := by
  unfold raiseExternal
  split
  · rfl
  · simp only; split_ifs <;> rfl
@[simp] theorem raiseExternal_timer : s.raiseExternal.timer = s.timer := by
  unfold raiseExternal
  split
  · rfl
  · simp only; split_ifs <;> rfl
@[simp] theorem raiseExternal_lcd : s.raiseExternal.lcd = s.lcd := by
  unfold raiseExternal
  split
  · rfl
  · simp only; split_ifs <;> rfl
@[simp] theorem raiseExternal_irqIn : s.raiseExternal.irqIn = s.irqIn.tail := by
  unfold raiseExternal
  split
  · rename_i h; rw [h]; rfl
  · rename_i h; simp only [h, List.tail_cons]; split_ifs <;> rfl

end State

/-- The latches do not move the display. -/
theorem Lcd.evalLatches_inRange (l : Lcd) (h : l.inRange) : l.evalLatches.inRange := h

/-- A stepping display stays in its ranges (10_state.md R39, R40). -/
theorem State.lcdAdvance_inRange (s : State) (h : s.lcd.inRange) : s.lcdAdvance.lcd.inRange := by
  obtain ⟨ho, hp, hh, hv⟩ := h
  cases hm : s.lcd.mode with
  | oamSearch =>
    have := ho hm
    simp only [lcdAdvance, hm]
    split_ifs with e <;>
      simp [endOamSearch, countDot, Lcd.evalLatches, Lcd.inRange, hm, Config.oamDots] at e ⊢ <;> omega
  | pixelTransfer =>
    have := hp hm
    simp only [lcdAdvance, hm]
    split_ifs with e <;>
      simp [endPixelTransfer, countDot, Lcd.evalLatches, Lcd.inRange, hm, pixelTransferEnd, Config.oamDots,
        Config.pixelTransferDots] at e ⊢ <;> omega
  | hblank =>
    have := hh hm
    simp only [lcdAdvance, hm, endHBlank]
    split_ifs with e f <;>
      simp [countDot, Lcd.evalLatches, Lcd.inRange, hm, Config.dotsPerLine, Config.visibleLines] at * <;> omega
  | vblank =>
    have := hv hm
    simp only [lcdAdvance, hm, endVBlankLine]
    split_ifs with e f <;>
      simp [countDot, Lcd.evalLatches, Lcd.inRange, hm, Config.dotsPerLine, Config.linesPerFrame] at * <;> omega

theorem State.lcdStep_inRange (s : State) (h : s.lcd.inRange) : s.lcdStep.lcd.inRange := by
  unfold lcdStep
  split
  · exact s.lcdAdvance_inRange h
  · exact h

/-- No period is longer than 1024 ticks (10_state.md R36). -/
theorem timerPeriod_le (sel : BitVec 2) : 16 ≤ timerPeriod sel ∧ timerPeriod sel ≤ 1024 := by
  revert sel; decide

/-- The accumulators stay in their ranges (10_state.md R34, R35). -/
theorem Timer.tick_inRange (t : Timer) (h : t.inRange) : t.divTick.counterTick.inRange := by
  obtain ⟨hd, ht⟩ := h
  have hp := fun sel => (timerPeriod_le sel).2
  have h1 : t.divTick.divAcc < 256 ∧ t.divTick.timaAcc = t.timaAcc := by
    unfold divTick
    split_ifs with e
    · exact ⟨(by decide : 0 < 256), rfl⟩
    · exact ⟨by simp [Config.divPeriod] at e ⊢; omega, rfl⟩
  have h2 : t.divTick.counterTick.divAcc = t.divTick.divAcc := by unfold counterTick; split_ifs <;> rfl
  refine ⟨h2 ▸ h1.1, ?_⟩
  have := hp t.divTick.select
  have h3 := h1.2
  show t.divTick.counterTick.timaAcc < 1024
  unfold counterTick
  split
  · split
    · exact (by decide : 0 < 1024)
    · rename_i b
      show t.divTick.timaAcc + 1 < 1024
      omega
  · omega

end Sys2Proof.Machine
end

