-- ==== Sys2Proof/Tests/Slice0.lean ====
section
/-! SUPPORT. The model's own tests: ill-formed terms refused, words decoded that are written out from the spec's encodings, one
step of the spec's own vectors (95_test_vectors.md), and for every statement that has hypotheses a state and operands that meet
them. -/
namespace Sys2Proof.Machine.Tests

open Sys2Proof Sys2Proof.Machine

set_option maxRecDepth 8000
set_option Elab.async false

/-! ## WellFormed: the one check (30_encoding.md R115), with a term it refuses for each value -/

theorem test_wellFormed_refuses_undefined :
    ∀ i ∈ [Instr.undefined_D3, .undefined_DB, .undefined_DD, .undefined_E3, .undefined_E4, .undefined_EB, .undefined_EC,
      .undefined_ED, .undefined_F4, .undefined_FC, .undefined_FD], i.wellFormed = false := by decide

theorem test_wellFormed_accepts : ∀ i ∈ [Instr.nop, .stop 0x00#8, .ld_A_d8 0xFF#8, .set_7_mHL], i.wellFormed = true := by decide

/-! ## Decoding words written out bit by bit from 30_encoding.md: every family of the table -/

/-- R102, R104: `LD r,r'` is `01 y z`. -/
theorem test_decode_ld_r_r :
    decode [0b01_010_101#8] = .ok (.ld_D_L, []) ∧ decode [0b01_110_000#8] = .ok (.ld_mHL_B, []) ∧
    decode [0b01_111_110#8] = .ok (.ld_A_mHL, []) ∧ decode [0b01_110_110#8] = .ok (.halt, []) := by decide

/-- R112: the immediate, pair and accumulator loads; immediates are little-endian. -/
theorem test_decode_loads :
    decode [0b00_001_110#8, 0x5A#8] = .ok (.ld_C_d8 0x5A#8, []) ∧
    decode [0b00_11_0_001#8, 0xF0#8, 0xDF#8] = .ok (.ld_SP_d16 0xDFF0#16, []) ∧
    decode [0x08#8, 0x00#8, 0xC1#8] = .ok (.ld_ma16_SP 0xC100#16, []) ∧
    decode [0b00_00_0_010#8] = .ok (.ld_mBC_A, []) ∧ decode [0b00_01_1_010#8] = .ok (.ld_A_mDE, []) ∧
    decode [0b00_10_0_010#8] = .ok (.ld_mHLi_A, []) ∧ decode [0b00_11_1_010#8] = .ok (.ld_A_mHLd, []) := by decide

theorem test_decode_loads_2 :
    decode [0xE0#8, 0x44#8] = .ok (.ldh_ma8_A 0x44#8, []) ∧ decode [0xF2#8] = .ok (.ldh_A_mC, []) ∧
    decode [0xFA#8, 0x34#8, 0xC2#8] = .ok (.ld_A_ma16 0xC234#16, []) ∧
    decode [0b11_10_0_001#8] = .ok (.pop_HL, []) ∧ decode [0b11_01_0_101#8] = .ok (.push_DE, []) := by decide

/-- R107, R108, R112: arithmetic. -/
theorem test_decode_arithmetic :
    decode [0b10_011_001#8] = .ok (.sbc_A_C, []) ∧ decode [0b10_111_110#8] = .ok (.cp_mHL, []) ∧
    decode [0b11_101_110#8, 0x0F#8] = .ok (.xor_d8 0x0F#8, []) ∧ decode [0b00_110_100#8] = .ok (.inc_mHL, []) ∧
    decode [0b00_011_101#8] = .ok (.dec_E, []) ∧ decode [0b00_100_111#8] = .ok (.daa, []) ∧
    decode [0b00_11_1_001#8] = .ok (.add_HL_SP, []) ∧ decode [0b00_11_0_011#8] = .ok (.inc_SP, []) ∧
    decode [0xE8#8, 0xFE#8] = .ok (.add_SP_e8 0xFE#8, []) ∧ decode [0xF8#8, 0x02#8] = .ok (.ld_HL_SPe8 0x02#8, []) := by
  decide

/-- R114: the prefixed forms `rot`, BIT, RES and SET, and the accumulator rotates of R112. -/
theorem test_decode_rotate_bit :
    decode [0b00_011_111#8] = .ok (.rra, []) ∧ decode [0xCB#8, 0b00_110_011#8] = .ok (.swap_E, []) ∧
    decode [0xCB#8, 0b00_101_110#8] = .ok (.sra_mHL, []) ∧ decode [0xCB#8, 0b01_111_100#8] = .ok (.bit_7_H, []) ∧
    decode [0xCB#8, 0b10_000_111#8] = .ok (.res_0_A, []) ∧ decode [0xCB#8, 0b11_011_000#8] = .ok (.set_3_B, []) := by decide

/-- R106, R112: control transfer and CPU control. -/
theorem test_decode_control :
    decode [0b11_010_010#8, 0x00#8, 0x20#8] = .ok (.jp_NC_a16 0x2000#16, []) ∧
    decode [0b00_100_000#8, 0xF8#8] = .ok (.jr_NZ_e8 0xF8#8, []) ∧
    decode [0b11_001_100#8, 0x34#8, 0x12#8] = .ok (.call_Z_a16 0x1234#16, []) ∧ decode [0b11_011_000#8] = .ok (.ret_C, []) ∧
    decode [0xD9#8] = .ok (.reti, []) := by decide

theorem test_decode_control_2 :
    decode [0xE9#8] = .ok (.jp_HL, []) ∧ decode [0b11_110_111#8] = .ok (.rst_30, []) ∧
    decode [0x10#8, 0x00#8] = .ok (.stop 0x00#8, []) ∧ decode [0xF3#8] = .ok (.di, []) ∧ decode [0xFB#8] = .ok (.ei, []) ∧
    decode [0xDD#8] = .ok (.undefined_DD, []) := by decide

/-- A list that ends inside an instruction is refused by name. -/
theorem test_decode_too_short : decode [] = .error .noOpcode ∧ decode [0xCB#8] = .error .noSecondOpcode ∧
    decode [0xCD#8, 0x34#8] = .error .noOperand := by decide

/-! ## The spec's vectors (95_test_vectors.md Part B), one CPU step each -/

/-- The step of a state with these bytes at its pc takes this many machine-cycles and ends as told. -/
def steps (s : State) (bytes : List Byte) (m : Nat) (p : State → Bool) : Bool :=
  match (s.placeBytes s.pc bytes).cpuStep with
  | .next q => q.1 == m && p q.2
  | .fault _ => false
  | .refused _ => false

/-- The fault an operation answers. -/
def faultOf (r : Result State) : Option Fault :=
  match r with
  | .next _ => none
  | .fault e => some e
  | .refused _ => none

/-- The operation answers a next state. -/
def answers (r : Result State) : Bool :=
  match r with
  | .next _ => true
  | .fault _ => false
  | .refused _ => false

theorem exists_of_answers {r : Result State} (h : answers r = true) : ∃ t, r = .next t := by
  cases r with
  | next t => exact ⟨t, rfl⟩
  | fault e => cases h
  | refused e => cases h

/-- V40.1, `LD B,C` (R141). -/
theorem test_V40_1 : steps (State.reset) [0x41#8] 1
    (fun t => t.regs.b == 0x13#8 && t.pc == 0x0101#16 && t.flags.toByte {} == 0xB0#8) = true := by
  decide +kernel

/-- V40.2, `LD D,0x5A` (R142). -/
theorem test_V40_2 : steps (State.reset) [0x16#8, 0x5A#8] 2
    (fun t => t.regs.d == 0x5A#8 && t.pc == 0x0102#16 && t.flags.toByte {} == 0xB0#8) = true := by
  decide +kernel

/-- V40.4, `LD H,(HL)` (R143). -/
theorem test_V40_4 : steps ((State.reset.setHL 0xC000#16).placeBytes 0xC000#16 [0x12#8]) [0x66#8] 2
    (fun t => t.regs.h == 0x12#8 && t.pc == 0x0101#16 && t.flags.toByte {} == 0xB0#8) = true := by
  decide +kernel

/-- V40.5, `LD (HL),E` (R144). -/
theorem test_V40_5 : steps (State.reset.setHL 0xC123#16) [0x73#8] 2
    (fun t => t.pc == 0x0101#16 && t.ext.read 0xC123#16 == 0xD8#8 && t.flags.toByte {} == 0xB0#8) = true := by
  decide +kernel

/-- V40.7, `LD (HL),0x77` (R145). -/
theorem test_V40_7 : steps (State.reset.setHL 0xDFFF#16) [0x36#8, 0x77#8] 3
    (fun t => t.pc == 0x0102#16 && t.ext.read 0xDFFF#16 == 0x77#8 && t.flags.toByte {} == 0xB0#8) = true := by
  decide +kernel

/-- V40.8, `LD A,(BC)` (R146). -/
theorem test_V40_8 : steps ((State.reset.setBC 0xC010#16).placeBytes 0xC010#16 [0xAB#8]) [0x0A#8] 2
    (fun t => t.regs.a == 0xAB#8 && t.pc == 0x0101#16 && t.flags.toByte {} == 0xB0#8) = true := by
  decide +kernel

/-- V40.11, `LD (DE),A` (R149). -/
theorem test_V40_11 : steps ((State.reset.setR8 .a 0xFF#8).setDE 0xFF0F#16) [0x12#8] 2
    (fun t => t.pc == 0x0101#16 && t.ifl == 0x1F#5 && t.flags.toByte {} == 0xB0#8) = true := by
  decide +kernel

/-- V40.12, `LD A,(0xC234)` (R150). -/
theorem test_V40_12 : steps (State.reset.placeBytes 0xC234#16 [0x42#8]) [0xFA#8, 0x34#8, 0xC2#8] 4
    (fun t => t.regs.a == 0x42#8 && t.pc == 0x0103#16 && t.flags.toByte {} == 0xB0#8) = true := by
  decide +kernel

/-- V40.13, `LD (0xC234),A` (R151). -/
theorem test_V40_13 : steps (State.reset.setR8 .a 0x9C#8) [0xEA#8, 0x34#8, 0xC2#8] 4
    (fun t => t.pc == 0x0103#16 && t.ext.read 0xC234#16 == 0x9C#8 && t.flags.toByte {} == 0xB0#8) = true := by
  decide +kernel

/-- V40.14, `LDH A,(C)` (R152). -/
theorem test_V40_14 : steps (State.reset.setR8 .c 0x07#8) [0xF2#8] 2
    (fun t => t.regs.a == 0xF8#8 && t.pc == 0x0101#16 && t.flags.toByte {} == 0xB0#8) = true := by
  decide +kernel

/-- V40.16, `LDH A,(0x44)` (R154). -/
theorem test_V40_16 : steps (({ State.reset with lcd := { State.reset.lcd with ly := 145, mode := .vblank } } : State)) [0xF0#8, 0x44#8] 3
    (fun t => t.regs.a == 0x91#8 && t.pc == 0x0102#16 && t.flags.toByte {} == 0xB0#8) = true := by
  decide +kernel

/-- V40.17, `LDH (0xFF),A` (R155). -/
theorem test_V40_17 : steps (State.reset.setR8 .a 0xFF#8) [0xE0#8, 0xFF#8] 3
    (fun t => t.pc == 0x0102#16 && t.ie == 0xFF#8 && t.flags.toByte {} == 0xB0#8) = true := by
  decide +kernel

/-- V40.18, `LD A,(HL-)` (R156). -/
theorem test_V40_18 : steps ((State.reset.setHL 0x0000#16).placeBytes 0x0000#16 [0xC3#8]) [0x3A#8] 2
    (fun t => t.regs.a == 0xC3#8 && t.regs.h == 0xFF#8 && t.regs.l == 0xFF#8 && t.pc == 0x0101#16 && t.flags.toByte {} == 0xB0#8) = true := by
  decide +kernel

/-- V40.21, `LD (HL+),A` (R159). -/
theorem test_V40_21 : steps ((State.reset.setR8 .a 0x1F#8).setHL 0xFFFF#16) [0x22#8] 2
    (fun t => t.regs.h == 0x00#8 && t.regs.l == 0x00#8 && t.pc == 0x0101#16 && t.ie == 0x1F#8 && t.flags.toByte {} == 0xB0#8) = true := by
  decide +kernel

/-- V41.1, `LD BC,0x1234` (R181). -/
theorem test_V41_1 : steps (State.reset) [0x01#8, 0x34#8, 0x12#8] 3
    (fun t => t.regs.b == 0x12#8 && t.regs.c == 0x34#8 && t.pc == 0x0103#16 && t.flags.toByte {} == 0xB0#8) = true := by
  decide +kernel

/-- V41.3, `LD (0xC100),SP` (R182). -/
theorem test_V41_3 : steps (State.reset) [0x08#8, 0x00#8, 0xC1#8] 5
    (fun t => t.pc == 0x0103#16 && t.ext.read 0xC100#16 == 0xFE#8 && t.ext.read 0xC101#16 == 0xFF#8 && t.flags.toByte {} == 0xB0#8) = true := by
  decide +kernel

/-- V41.4, `LD (0xFFFF),SP` (R182). -/
theorem test_V41_4 : steps (State.reset.setSp 0x12AB#16) [0x08#8, 0xFF#8, 0xFF#8] 5
    (fun t => t.pc == 0x0103#16 && t.ie == 0xAB#8 && t.flags.toByte {} == 0xB0#8) = true := by
  decide +kernel

/-- V41.5, `LD SP,HL` (R183). -/
theorem test_V41_5 : steps (State.reset) [0xF9#8] 2
    (fun t => t.sp == 0x014D#16 && t.pc == 0x0101#16 && t.flags.toByte {} == 0xB0#8) = true := by
  decide +kernel

/-- V41.8, `PUSH DE` (R184). -/
theorem test_V41_8 : steps ((State.reset.setSp 0x0000#16).setDE 0x1FCD#16) [0xD5#8] 4
    (fun t => t.sp == 0xFFFE#16 && t.pc == 0x0101#16 && t.ie == 0x1F#8 && t.ext.read 0xFFFE#16 == 0xCD#8 && t.flags.toByte {} == 0xB0#8) = true := by
  decide +kernel

/-- V41.10, `POP AF` (R186). -/
theorem test_V41_10 : steps (((State.reset.setSp 0xDFFC#16).placeBytes 0xDFFC#16 [0xFF#8]).placeBytes 0xDFFD#16 [0x12#8]) [0xF1#8] 3
    (fun t => t.regs.a == 0x12#8 && t.flags.toByte {} == 0xF0#8 && t.sp == 0xDFFE#16 && t.pc == 0x0101#16) = true := by
  decide +kernel

/-- V41.12, `POP HL` (R185). -/
theorem test_V41_12 : steps ((({ State.reset with ie := 0x5A#8 } : State).setSp 0xFFFF#16).placeBytes 0x0000#16 [0xC3#8]) [0xE1#8] 3
    (fun t => t.regs.h == 0xC3#8 && t.regs.l == 0x5A#8 && t.sp == 0x0001#16 && t.pc == 0x0101#16 && t.flags.toByte {} == 0xB0#8) = true := by
  decide +kernel

/-- V42.2, `ADD A,B` (R204). -/
theorem test_V42_2 : steps (((State.reset.setR8 .a 0x0F#8).setR8 .b 0x01#8).setFlags (.ofByte {} 0xF0#8)) [0x80#8] 1
    (fun t => t.regs.a == 0x10#8 && t.flags.toByte {} == 0x20#8 && t.pc == 0x0101#16) = true := by
  decide +kernel

/-- V42.4, `ADD A,(HL)` (R204). -/
theorem test_V42_4 : steps ((((State.reset.setR8 .a 0x01#8).setHL 0xC000#16).setFlags (.ofByte {} 0x00#8)).placeBytes 0xC000#16 [0xFE#8]) [0x86#8] 2
    (fun t => t.regs.a == 0xFF#8 && t.pc == 0x0101#16 && t.flags.toByte {} == 0x00#8) = true := by
  decide +kernel

/-- V42.5, `ADD A,0xFF` (R204). -/
theorem test_V42_5 : steps ((State.reset.setR8 .a 0xFF#8).setFlags (.ofByte {} 0x00#8)) [0xC6#8, 0xFF#8] 2
    (fun t => t.regs.a == 0xFE#8 && t.flags.toByte {} == 0x30#8 && t.pc == 0x0102#16) = true := by
  decide +kernel

/-- V42.9, `ADC A,0xFF` (R205). -/
theorem test_V42_9 : steps ((State.reset.setR8 .a 0xFF#8).setFlags (.ofByte {} 0x10#8)) [0xCE#8, 0xFF#8] 2
    (fun t => t.flags.toByte {} == 0x30#8 && t.pc == 0x0102#16) = true := by
  decide +kernel

/-- V42.11, `SUB B` (R206). -/
theorem test_V42_11 : steps (((State.reset.setR8 .a 0x10#8).setR8 .b 0x01#8).setFlags (.ofByte {} 0x00#8)) [0x90#8] 1
    (fun t => t.regs.a == 0x0F#8 && t.flags.toByte {} == 0x60#8 && t.pc == 0x0101#16) = true := by
  decide +kernel

/-- V42.14, `SBC A,0xFF` (R207). -/
theorem test_V42_14 : steps ((State.reset.setR8 .a 0xFF#8).setFlags (.ofByte {} 0x10#8)) [0xDE#8, 0xFF#8] 2
    (fun t => t.flags.toByte {} == 0x70#8 && t.pc == 0x0102#16) = true := by
  decide +kernel

/-- V42.17, `AND B` (R208). -/
theorem test_V42_17 : steps (((State.reset.setR8 .a 0x5A#8).setR8 .b 0xA5#8).setFlags (.ofByte {} 0x10#8)) [0xA0#8] 1
    (fun t => t.regs.a == 0x00#8 && t.flags.toByte {} == 0xA0#8 && t.pc == 0x0101#16) = true := by
  decide +kernel

/-- V42.19, `XOR A` (R209). -/
theorem test_V42_19 : steps (State.reset.setR8 .a 0x99#8) [0xAF#8] 1
    (fun t => t.regs.a == 0x00#8 && t.flags.toByte {} == 0x80#8 && t.pc == 0x0101#16) = true := by
  decide +kernel

/-- V42.22, `OR 0x80` (R210). -/
theorem test_V42_22 : steps (State.reset.setR8 .a 0x01#8) [0xF6#8, 0x80#8] 2
    (fun t => t.regs.a == 0x81#8 && t.flags.toByte {} == 0x00#8 && t.pc == 0x0102#16) = true := by
  decide +kernel

/-- V42.23, `CP B` (R211). -/
theorem test_V42_23 : steps (((State.reset.setR8 .a 0x3C#8).setR8 .b 0x2F#8).setFlags (.ofByte {} 0x00#8)) [0xB8#8] 1
    (fun t => t.flags.toByte {} == 0x60#8 && t.pc == 0x0101#16) = true := by
  decide +kernel

/-- V42.27, `INC A` (R212). -/
theorem test_V42_27 : steps ((State.reset.setR8 .a 0xFF#8).setFlags (.ofByte {} 0x10#8)) [0x3C#8] 1
    (fun t => t.regs.a == 0x00#8 && t.flags.toByte {} == 0xB0#8 && t.pc == 0x0101#16) = true := by
  decide +kernel

/-- V42.28, `INC B` (R212). -/
theorem test_V42_28 : steps ((State.reset.setR8 .b 0x0F#8).setFlags (.ofByte {} 0xC0#8)) [0x04#8] 1
    (fun t => t.regs.b == 0x10#8 && t.flags.toByte {} == 0x20#8 && t.pc == 0x0101#16) = true := by
  decide +kernel

/-- V42.31, `DEC C` (R214). -/
theorem test_V42_31 : steps ((State.reset.setR8 .c 0x00#8).setFlags (.ofByte {} 0x00#8)) [0x0D#8] 1
    (fun t => t.regs.c == 0xFF#8 && t.flags.toByte {} == 0x60#8 && t.pc == 0x0101#16) = true := by
  decide +kernel

/-- V42.33, `DEC (HL)` (R215). -/
theorem test_V42_33 : steps (((State.reset.setHL 0xC000#16).setFlags (.ofByte {} 0x00#8)).placeBytes 0xC000#16 [0x00#8]) [0x35#8] 3
    (fun t => t.flags.toByte {} == 0x60#8 && t.pc == 0x0101#16 && t.ext.read 0xC000#16 == 0xFF#8) = true := by
  decide +kernel

/-- V42.37, `DAA` (R216). -/
theorem test_V42_37 : steps ((State.reset.setR8 .a 0x94#8).setFlags (.ofByte {} 0x20#8)) [0x27#8] 1
    (fun t => t.regs.a == 0x9A#8 && t.flags.toByte {} == 0x00#8 && t.pc == 0x0101#16) = true := by
  decide +kernel

/-- V42.41, `DAA` (R216). -/
theorem test_V42_41 : steps ((State.reset.setR8 .a 0x99#8).setFlags (.ofByte {} 0x70#8)) [0x27#8] 1
    (fun t => t.regs.a == 0x33#8 && t.flags.toByte {} == 0x50#8 && t.pc == 0x0101#16) = true := by
  decide +kernel

/-- V42.44, `CPL` (R217). -/
theorem test_V42_44 : steps ((State.reset.setR8 .a 0x35#8).setFlags (.ofByte {} 0x90#8)) [0x2F#8] 1
    (fun t => t.regs.a == 0xCA#8 && t.flags.toByte {} == 0xF0#8 && t.pc == 0x0101#16) = true := by
  decide +kernel

/-- V42.45, `SCF` (R218). -/
theorem test_V42_45 : steps (State.reset.setFlags (.ofByte {} 0xE0#8)) [0x37#8] 1
    (fun t => t.flags.toByte {} == 0x90#8 && t.pc == 0x0101#16) = true := by
  decide +kernel

/-- V42.47, `CCF` (R219). -/
theorem test_V42_47 : steps (State.reset.setFlags (.ofByte {} 0x00#8)) [0x3F#8] 1
    (fun t => t.flags.toByte {} == 0x10#8 && t.pc == 0x0101#16) = true := by
  decide +kernel

/-- V43.1, `ADD HL,BC` (R241). -/
theorem test_V43_1 : steps (((State.reset.setHL 0x0FFF#16).setBC 0x0001#16).setFlags (.ofByte {} 0x00#8)) [0x09#8] 2
    (fun t => t.regs.h == 0x10#8 && t.regs.l == 0x00#8 && t.flags.toByte {} == 0x20#8 && t.pc == 0x0101#16) = true := by
  decide +kernel

/-- V43.2, `ADD HL,BC` (R241). -/
theorem test_V43_2 : steps (((State.reset.setHL 0x8000#16).setBC 0x8000#16).setFlags (.ofByte {} 0xC0#8)) [0x09#8] 2
    (fun t => t.regs.h == 0x00#8 && t.flags.toByte {} == 0xD0#8 && t.pc == 0x0101#16) = true := by
  decide +kernel

/-- V43.7, `INC SP` (R242). -/
theorem test_V43_7 : steps (State.reset.setSp 0xFFFF#16) [0x33#8] 2
    (fun t => t.sp == 0x0000#16 && t.pc == 0x0101#16 && t.flags.toByte {} == 0xB0#8) = true := by
  decide +kernel

/-- V43.8, `DEC DE` (R243). -/
theorem test_V43_8 : steps ((State.reset.setDE 0x0000#16).setFlags (.ofByte {} 0xF0#8)) [0x1B#8] 2
    (fun t => t.regs.d == 0xFF#8 && t.regs.e == 0xFF#8 && t.pc == 0x0101#16 && t.flags.toByte {} == 0xF0#8) = true := by
  decide +kernel

/-- V43.12, `ADD SP,-1` (R244). -/
theorem test_V43_12 : steps ((State.reset.setSp 0x0001#16).setFlags (.ofByte {} 0x00#8)) [0xE8#8, 0xFF#8] 4
    (fun t => t.flags.toByte {} == 0x30#8 && t.sp == 0x0000#16 && t.pc == 0x0102#16) = true := by
  decide +kernel

/-- V43.15, `LD HL,SP-2` (R245). -/
theorem test_V43_15 : steps ((State.reset.setSp 0xFFFE#16).setFlags (.ofByte {} 0x00#8)) [0xF8#8, 0xFE#8] 3
    (fun t => t.regs.h == 0xFF#8 && t.regs.l == 0xFC#8 && t.flags.toByte {} == 0x30#8 && t.pc == 0x0102#16) = true := by
  decide +kernel

/-- V44.2, `RLCA` (R262). -/
theorem test_V44_2 : steps ((State.reset.setR8 .a 0x00#8).setFlags (.ofByte {} 0xF0#8)) [0x07#8] 1
    (fun t => t.flags.toByte {} == 0x00#8 && t.pc == 0x0101#16) = true := by
  decide +kernel

/-- V44.5, `RLA` (R264). -/
theorem test_V44_5 : steps ((State.reset.setR8 .a 0x55#8).setFlags (.ofByte {} 0x10#8)) [0x17#8] 1
    (fun t => t.regs.a == 0xAB#8 && t.flags.toByte {} == 0x00#8 && t.pc == 0x0101#16) = true := by
  decide +kernel

/-- V44.7, `RRA` (R265). -/
theorem test_V44_7 : steps ((State.reset.setR8 .a 0x00#8).setFlags (.ofByte {} 0x10#8)) [0x1F#8] 1
    (fun t => t.regs.a == 0x80#8 && t.flags.toByte {} == 0x00#8 && t.pc == 0x0101#16) = true := by
  decide +kernel

/-- V44.9, `RLC B` (R266). -/
theorem test_V44_9 : steps ((State.reset.setR8 .b 0x00#8).setFlags (.ofByte {} 0x10#8)) [0xCB#8, 0x00#8] 2
    (fun t => t.flags.toByte {} == 0x80#8 && t.pc == 0x0102#16) = true := by
  decide +kernel

/-- V44.10, `RRC (HL)` (R267). -/
theorem test_V44_10 : steps (((State.reset.setHL 0xC000#16).setFlags (.ofByte {} 0x00#8)).placeBytes 0xC000#16 [0x01#8]) [0xCB#8, 0x0E#8] 4
    (fun t => t.flags.toByte {} == 0x10#8 && t.pc == 0x0102#16 && t.ext.read 0xC000#16 == 0x80#8) = true := by
  decide +kernel

/-- V44.12, `RL (HL)` (R268). -/
theorem test_V44_12 : steps (((State.reset.setHL 0xC000#16).setFlags (.ofByte {} 0x10#8)).placeBytes 0xC000#16 [0x11#8]) [0xCB#8, 0x16#8] 4
    (fun t => t.flags.toByte {} == 0x00#8 && t.pc == 0x0102#16 && t.ext.read 0xC000#16 == 0x23#8) = true := by
  decide +kernel

/-- V44.13, `RR A` (R269). -/
theorem test_V44_13 : steps ((State.reset.setR8 .a 0x01#8).setFlags (.ofByte {} 0x00#8)) [0xCB#8, 0x1F#8] 2
    (fun t => t.regs.a == 0x00#8 && t.flags.toByte {} == 0x90#8 && t.pc == 0x0102#16) = true := by
  decide +kernel

/-- V44.16, `SLA E` (R270). -/
theorem test_V44_16 : steps ((State.reset.setR8 .e 0xFF#8).setFlags (.ofByte {} 0x00#8)) [0xCB#8, 0x23#8] 2
    (fun t => t.regs.e == 0xFE#8 && t.flags.toByte {} == 0x10#8 && t.pc == 0x0102#16) = true := by
  decide +kernel

/-- V44.17, `SRA H` (R271). -/
theorem test_V44_17 : steps ((State.reset.setR8 .h 0x81#8).setFlags (.ofByte {} 0x00#8)) [0xCB#8, 0x2C#8] 2
    (fun t => t.regs.h == 0xC0#8 && t.flags.toByte {} == 0x10#8 && t.pc == 0x0102#16) = true := by
  decide +kernel

/-- V44.19, `SWAP L` (R272). -/
theorem test_V44_19 : steps ((State.reset.setR8 .l 0xF1#8).setFlags (.ofByte {} 0xF0#8)) [0xCB#8, 0x35#8] 2
    (fun t => t.regs.l == 0x1F#8 && t.flags.toByte {} == 0x00#8 && t.pc == 0x0102#16) = true := by
  decide +kernel

/-- V44.22, `SRL (HL)` (R273). -/
theorem test_V44_22 : steps (((State.reset.setHL 0xC000#16).setFlags (.ofByte {} 0x00#8)).placeBytes 0xC000#16 [0xFF#8]) [0xCB#8, 0x3E#8] 4
    (fun t => t.flags.toByte {} == 0x10#8 && t.pc == 0x0102#16 && t.ext.read 0xC000#16 == 0x7F#8) = true := by
  decide +kernel

/-- V44.24, `BIT 7,H` (R274). -/
theorem test_V44_24 : steps ((State.reset.setR8 .h 0x7F#8).setFlags (.ofByte {} 0x00#8)) [0xCB#8, 0x7C#8] 2
    (fun t => t.flags.toByte {} == 0xA0#8 && t.pc == 0x0102#16) = true := by
  decide +kernel

/-- V44.25, `BIT 0,(HL)` (R274). -/
theorem test_V44_25 : steps (((State.reset.setHL 0xC000#16).setFlags (.ofByte {} 0x50#8)).placeBytes 0xC000#16 [0xFE#8]) [0xCB#8, 0x46#8] 3
    (fun t => t.flags.toByte {} == 0xB0#8 && t.pc == 0x0102#16) = true := by
  decide +kernel

/-- V44.27, `RES 7,(HL)` (R275). -/
theorem test_V44_27 : steps ((State.reset.setHL 0xC000#16).placeBytes 0xC000#16 [0x80#8]) [0xCB#8, 0xBE#8] 4
    (fun t => t.pc == 0x0102#16 && t.ext.read 0xC000#16 == 0x00#8 && t.flags.toByte {} == 0xB0#8) = true := by
  decide +kernel

/-- V44.28, `SET 3,B` (R276). -/
theorem test_V44_28 : steps ((State.reset.setR8 .b 0x00#8).setFlags (.ofByte {} 0x00#8)) [0xCB#8, 0xD8#8] 2
    (fun t => t.regs.b == 0x08#8 && t.pc == 0x0102#16 && t.flags.toByte {} == 0x00#8) = true := by
  decide +kernel

/-- V45.2, `JP NZ,0x2000` (R302). -/
theorem test_V45_2 : steps (State.reset.setFlags (.ofByte {} 0x00#8)) [0xC2#8, 0x00#8, 0x20#8] 4
    (fun t => t.pc == 0x2000#16 && t.flags.toByte {} == 0x00#8) = true := by
  decide +kernel

/-- V45.3, `JP NZ,0x2000` (R302). -/
theorem test_V45_3 : steps (State.reset.setFlags (.ofByte {} 0x80#8)) [0xC2#8, 0x00#8, 0x20#8] 3
    (fun t => t.pc == 0x0103#16 && t.flags.toByte {} == 0x80#8) = true := by
  decide +kernel

/-- V45.5, `JP HL` (R303). -/
theorem test_V45_5 : steps (State.reset) [0xE9#8] 1
    (fun t => t.pc == 0x014D#16 && t.flags.toByte {} == 0xB0#8) = true := by
  decide +kernel

/-- V45.8, `JR -128` (R304). -/
theorem test_V45_8 : steps (State.reset) [0x18#8, 0x80#8] 3
    (fun t => t.pc == 0x0082#16 && t.flags.toByte {} == 0xB0#8) = true := by
  decide +kernel

/-- V45.9, `JR +5` (R304). -/
theorem test_V45_9 : steps (State.reset.setPc 0xFFFD#16) [0x18#8, 0x05#8] 3
    (fun t => t.pc == 0x0004#16 && t.flags.toByte {} == 0xB0#8) = true := by
  decide +kernel

/-- V45.11, `JR Z,+4` (R305). -/
theorem test_V45_11 : steps (State.reset.setFlags (.ofByte {} 0x00#8)) [0x28#8, 0x04#8] 2
    (fun t => t.pc == 0x0102#16 && t.flags.toByte {} == 0x00#8) = true := by
  decide +kernel

/-- V45.12, `JR NC,-4` (R305). -/
theorem test_V45_12 : steps (State.reset.setFlags (.ofByte {} 0x00#8)) [0x30#8, 0xFC#8] 3
    (fun t => t.pc == 0x00FE#16 && t.flags.toByte {} == 0x00#8) = true := by
  decide +kernel

/-- V45.13, `CALL 0x1234` (R306). -/
theorem test_V45_13 : steps (State.reset) [0xCD#8, 0x34#8, 0x12#8] 6
    (fun t => t.sp == 0xFFFC#16 && t.pc == 0x1234#16 && t.ext.read 0xFFFC#16 == 0x03#8 && t.ext.read 0xFFFD#16 == 0x01#8 && t.flags.toByte {} == 0xB0#8) = true := by
  decide +kernel

/-- V45.14, `CALL Z,0x1234` (R307). -/
theorem test_V45_14 : steps (State.reset.setFlags (.ofByte {} 0x00#8)) [0xCC#8, 0x34#8, 0x12#8] 3
    (fun t => t.pc == 0x0103#16 && t.flags.toByte {} == 0x00#8) = true := by
  decide +kernel

/-- V45.17, `RET C` (R309). -/
theorem test_V45_17 : steps ((((State.reset.setFlags (.ofByte {} 0x10#8)).setSp 0xDFFC#16).placeBytes 0xDFFC#16 [0x03#8]).placeBytes 0xDFFD#16 [0x02#8]) [0xD8#8] 5
    (fun t => t.sp == 0xDFFE#16 && t.pc == 0x0203#16 && t.flags.toByte {} == 0x10#8) = true := by
  decide +kernel

/-- V45.18, `RET C` (R309). -/
theorem test_V45_18 : steps ((((State.reset.setFlags (.ofByte {} 0x00#8)).setSp 0xDFFC#16).placeBytes 0xDFFC#16 [0x03#8]).placeBytes 0xDFFD#16 [0x02#8]) [0xD8#8] 2
    (fun t => t.pc == 0x0101#16 && t.flags.toByte {} == 0x00#8) = true := by
  decide +kernel

/-- V45.20, `RETI` (R310). -/
theorem test_V45_20 : steps (((({ State.reset with ie := 0x04#8, ifl := 0x04#5 } : State).setSp 0xDFFC#16).placeBytes 0xDFFC#16 [0x03#8]).placeBytes 0xDFFD#16 [0x02#8]) [0xD9#8] 9
    (fun t => t.pc == 0x0050#16 && t.ifl == 0x00#5 && t.flags.toByte {} == 0xB0#8) = true := by
  decide +kernel

/-- V45.22, `RST 0x00` (R311). -/
theorem test_V45_22 : steps ((State.reset.setPc 0x0234#16).setSp 0xD002#16) [0xC7#8] 4
    (fun t => t.sp == 0xD000#16 && t.pc == 0x0000#16 && t.ext.read 0xD000#16 == 0x35#8 && t.ext.read 0xD001#16 == 0x02#8 && t.flags.toByte {} == 0xB0#8) = true := by
  decide +kernel

/-- V46.3, `HALT` (R331). -/
theorem test_V46_3 : steps (({ State.reset with ime := true, ie := 0x01#8, ifl := 0x01#5 } : State)) [0x76#8, 0x3C#8] 6
    (fun t => t.sp == 0xFFFC#16 && t.pc == 0x0040#16 && !t.ime && t.ifl == 0x00#5 && t.ext.read 0xFFFC#16 == 0x01#8 && t.ext.read 0xFFFD#16 == 0x01#8 && t.flags.toByte {} == 0xB0#8) = true := by
  decide +kernel

/-- V46.4, `HALT` (R331). -/
theorem test_V46_4 : steps (({ State.reset with ime := false, ie := 0x01#8, ifl := 0x01#5 } : State)) [0x76#8, 0x3C#8] 1
    (fun t => t.pc == 0x0101#16 && t.hq == some 0x3C#8 && t.flags.toByte {} == 0xB0#8) = true := by
  decide +kernel

/-- V46.7, `DI` (R333). -/
theorem test_V46_7 : steps (({ State.reset with ime := true, ie := 0x01#8, ifl := 0x01#5 } : State)) [0xF3#8] 1
    (fun t => t.pc == 0x0101#16 && !t.ime && t.flags.toByte {} == 0xB0#8) = true := by
  decide +kernel

/-- V46.8, `EI` (R334). -/
theorem test_V46_8 : steps (({ State.reset with ime := false, ie := 0x00#8, ifl := 0x1F#5 } : State)) [0xFB#8] 1
    (fun t => t.pc == 0x0101#16 && t.ime && t.flags.toByte {} == 0xB0#8) = true := by
  decide +kernel

/-- V46.9, `EI` (R334). -/
theorem test_V46_9 : steps (({ State.reset with ime := false, ie := 0x04#8, ifl := 0x04#5 } : State).setPc 0x0200#16) [0xFB#8] 6
    (fun t => t.sp == 0xFFFC#16 && t.pc == 0x0050#16 && t.ifl == 0x00#5 && t.ext.read 0xFFFC#16 == 0x01#8 && t.ext.read 0xFFFD#16 == 0x02#8 && t.flags.toByte {} == 0xB0#8) = true := by
  decide +kernel

/-- V46.13, `SET 2,E` (R335, R276). -/
theorem test_V46_13 : steps (State.reset.setR8 .e 0x00#8) [0xCB#8, 0xD3#8] 2
    (fun t => t.regs.e == 0x04#8 && t.pc == 0x0102#16 && t.flags.toByte {} == 0xB0#8) = true := by
  decide +kernel

/-- VI.1, `NOP` (R360, R361, R362). -/
theorem test_VI_1 : steps (({ State.reset with ime := true, ie := 0xFF#8, ifl := 0x03#5 } : State)) [0x00#8] 6
    (fun t => t.sp == 0xFFFC#16 && t.pc == 0x0040#16 && !t.ime && t.ifl == 0x02#5 && t.ext.read 0xFFFC#16 == 0x01#8 && t.ext.read 0xFFFD#16 == 0x01#8 && t.flags.toByte {} == 0xB0#8) = true := by
  decide +kernel

/-- VI.6, `NOP` (R361). -/
theorem test_VI_6 : steps (({ State.reset with ime := true, ie := 0x1F#8, ifl := 0x18#5 } : State)) [0x00#8] 6
    (fun t => t.sp == 0xFFFC#16 && t.pc == 0x0058#16 && !t.ime && t.ifl == 0x10#5 && t.ext.read 0xFFFC#16 == 0x01#8 && t.ext.read 0xFFFD#16 == 0x01#8 && t.flags.toByte {} == 0xB0#8) = true := by
  decide +kernel

/-- VI.7, `a halted step` (R359, R360). -/
theorem test_VI_7 : steps (({ State.reset with halted := true, ime := false, ie := 0x04#8, ifl := 0x04#5 } : State)) [0x00#8] 1
    (fun t => !t.halted && t.flags.toByte {} == 0xB0#8) = true := by
  decide +kernel

/-- VI.8, `a halted step` (R359, R362, R364). -/
theorem test_VI_8 : steps (({ State.reset with halted := true, ime := true, ie := 0x04#8, ifl := 0x04#5 } : State)) [0x00#8] 6
    (fun t => t.sp == 0xFFFC#16 && t.pc == 0x0050#16 && !t.ime && !t.halted && t.ifl == 0x00#5 && t.ext.read 0xFFFD#16 == 0x01#8 && t.flags.toByte {} == 0xB0#8) = true := by
  decide +kernel

/-- VI.11, `CALL 0x1234` (R365). -/
theorem test_VI_11 : steps (({ State.reset with ime := true, ie := 0x02#8, ifl := 0x02#5 } : State)) [0xCD#8, 0x34#8, 0x12#8] 11
    (fun t => t.sp == 0xFFFA#16 && t.pc == 0x0048#16 && !t.ime && t.ifl == 0x00#5 && t.ext.read 0xFFFA#16 == 0x34#8 && t.ext.read 0xFFFB#16 == 0x12#8 && t.ext.read 0xFFFC#16 == 0x03#8 && t.ext.read 0xFFFD#16 == 0x01#8 && t.flags.toByte {} == 0xB0#8) = true := by
  decide +kernel

/-- VB.1, `LD A,(HL)` (R68). -/
theorem test_VB_1 : steps ((({ State.reset with lcd := { State.reset.lcd with lcdc := 0x80#8, mode := .pixelTransfer, dot := 100 } } : State).setHL 0x8000#16).placeBytes 0x8000#16 [0x12#8]) [0x7E#8] 2
    (fun t => t.regs.a == 0xFF#8 && t.pc == 0x0101#16 && t.flags.toByte {} == 0xB0#8) = true := by
  decide +kernel

/-- VB.4, `LD (HL),A` (R68). -/
theorem test_VB_4 : steps (((({ State.reset with lcd := { State.reset.lcd with lcdc := 0x80#8, mode := .pixelTransfer, dot := 100 } } : State).setR8 .a 0x77#8).setHL 0x8000#16).placeBytes 0x8000#16 [0x12#8]) [0x77#8] 2
    (fun t => t.pc == 0x0101#16 && t.flags.toByte {} == 0xB0#8) = true := by
  decide +kernel

/-- VB.10, `LD A,(HL)` (R69). -/
theorem test_VB_10 : steps ((({ State.reset with lcd := { State.reset.lcd with lcdc := 0x80#8, mode := .pixelTransfer, dot := 100 } } : State).setHL 0xFEA0#16).placeBytes 0xFEA0#16 [0x34#8]) [0x7E#8] 2
    (fun t => t.regs.a == 0x34#8 && t.pc == 0x0101#16 && t.flags.toByte {} == 0xB0#8) = true := by
  decide +kernel

/-- VB.12, `LDH A,(0x41)` (R76). -/
theorem test_VB_12 : steps (({ State.reset with lcd := { State.reset.lcd with enL := false, en2 := true, en1 := false, en0 := true, mode := .pixelTransfer, dot := 100, ly := 7, lyc := 0x07#8 } } : State)) [0xF0#8, 0x41#8] 3
    (fun t => t.regs.a == 0xAF#8 && t.pc == 0x0102#16 && t.flags.toByte {} == 0xB0#8) = true := by
  decide +kernel

/-- VB.13, `LDH (0x41),A` (R76). -/
theorem test_VB_13 : steps (State.reset.setR8 .a 0xFF#8) [0xE0#8, 0x41#8] 3
    (fun t => t.pc == 0x0102#16 && [t.lcd.enL, t.lcd.en2, t.lcd.en1, t.lcd.en0] == [true, true, true, true] && t.flags.toByte {} == 0xB0#8) = true := by
  decide +kernel

/-- VB.15, `LDH (0x07),A` (R72). -/
theorem test_VB_15 : steps (State.reset.setR8 .a 0xFF#8) [0xE0#8, 0x07#8] 3
    (fun t => t.pc == 0x0102#16 && t.timer.tac == 0x07#3 && t.flags.toByte {} == 0xB0#8) = true := by
  decide +kernel

/-! Steps that stop, the halt-bug queue, and the machine step. -/

/-- V46.10, V46.11 (R336). -/
theorem test_undefined_stops :
    exec .undefined_D3 State.reset = .fault (.undefinedOpcode 0xD3#8) ∧
    faultOf (step (State.reset.placeBytes 0x0100#16 [0xFD#8])) = some (.undefinedOpcode 0xFD#8) := ⟨rfl, by decide +kernel⟩

/-- V46.12 (R332): STOP_BEHAVIOUR = refuse, the spec's default. -/
theorem test_stop_refuses :
    (match step (State.specReset.placeBytes 0x0100#16 [0x10#8, 0x00#8]) with
      | .refused e => e == .stop
      | _ => false) = true := by decide +kernel

/-- R332: STOP_BEHAVIOUR = nop2 takes the operand byte. -/
theorem test_stop_nop2 : steps State.reset [0x10#8, 0x3C#8] 1 (fun t => t.pc == 0x0102#16 && t.regs.a == 0x01#8) = true := by
  decide +kernel

/-- V46.5, the step after HALT (R101): the queued byte runs without moving the pc. -/
theorem test_halt_bug :
    steps { State.reset with ifl := 1#5, ie := 1#8, hq := some 0x3C#8 } [0x3C#8] 1
      (fun t => t.regs.a == 0x02#8 && t.pc == 0x0100#16 && t.hq == none) = true := by decide +kernel

/-- VT.18 (R70, R410): the store clears DIV and its accumulator, then the step's 12 ticks run. -/
theorem test_VT_18 :
    (match step { State.reset.placeBytes 0x0100#16 [0xE0#8, 0x04#8] with
        timer := { State.reset.timer with div := 0x5C#8, divAcc := 200, timaAcc := 9, tac := 4#3 } } with
      | .next t => t.timer.div == 0#8 && t.timer.divAcc == 12 && t.timer.timaAcc == 21 && t.lcd.dot == 12
      | .fault _ => false
      | .refused _ => false) = true := by decide +kernel

/-- VT.16, VT.17 (R381, D17). -/
theorem test_timer_tick :
    (State.timerStep { State.reset with timer := { State.reset.timer with tac := 5#3, timaAcc := 500 } }).timer.tima = 1#8 ∧
    (let t := State.timerStep { State.reset with
      ifl := 0x1B#5, timer := { State.reset.timer with tac := 4#3, timaAcc := 1023, tima := 0xFF#8, tma := 0xAA#8 } }
     t.timer.tima = 0xAA#8 ∧ t.ifl = 0x1F#5) := by decide +kernel

/-- VL.11, VL.14 (R392, R393): into VBlank, and the wrap of `LY`. -/
theorem test_display_tick :
    (let t := State.lcdStep { State.reset with lcd := { State.reset.lcd with mode := .hblank, dot := 455, ly := 143 } }
     t.lcd.mode = .vblank ∧ t.lcd.ly = 144 ∧ t.lcd.frame = 1 ∧ t.ifl = 1#5) ∧
    (let t := State.lcdStep { State.reset with lcd := { State.reset.lcd with mode := .vblank, dot := 455, ly := 153 } }
     t.lcd.mode = .oamSearch ∧ t.lcd.ly = 0) := by decide +kernel

/-- VS.1 (R396): the HBlank source raises LCD-status at the entry of HBlank. -/
theorem test_stat_edge :
    (State.lcdStep { State.reset with
      lcd := { State.reset.lcd with mode := .pixelTransfer, dot := 251, en0 := true } }).ifl = 2#5 := by decide +kernel

/-- The two host names on one word each: a CB word has its first byte in the high bits of the table's opcode (log 8). -/
theorem test_host_names :
    decodeTableWord 8 0x76 = some .halt ∧
    steps (State.reset.withFetchWord 8 0x3C) [] 1 (fun t => t.regs.a == 0x02#8) = true := by decide +kernel

/-! ## Arguments that are not the defaults (00_scope.md R6, 20_memory.md R66) -/

/-- A cartridge that switches banks: its cells are the bank and the byte each of four banks shows at 0x4000..0x7FFF; a store
below 0x4000 selects a bank below 4 and is refused with another byte; 0xA000..0xBFFF is unmapped and reads 0xFF. -/
def banked (s : State) : State :=
  { s with ext := { s.ext with
    windows :=
      [{ lo := 0x0000#16, hi := 0x3FFF#16, onRead := .memory, onWrite := .chip },
       { lo := 0x4000#16, hi := 0x7FFF#16, onRead := .chip, onWrite := .ignore },
       { lo := 0xA000#16, hi := 0xBFFF#16, onRead := .fixed 0xFF#8, onWrite := .ignore }]
    chip :=
      { cells := [1, 0x10, 0x11, 0x12, 0x13]
        onRead := .done (.cell (.op .add (.const 1) (.cell (.const 0))))
        onWrite := .branch (.op .lt .value (.const 4)) (.set (.const 0) .value (.done (.const 0))) .refuse } } }

/-- A device at 0xC000 that counts its reads: a read returns the count and adds one; a store sets it. -/
def counting (s : State) : State :=
  { s with ext := { s.ext with
    windows := [{ lo := 0xC000#16, hi := 0xC000#16, onRead := .chip, onWrite := .chip }]
    chip :=
      { cells := [7]
        onRead := .set (.const 0) (.op .add (.cell (.const 0)) (.const 1)) (.done (.op .sub (.cell (.const 0)) (.const 1)))
        onWrite := .set (.const 0) .value (.done (.const 0)) } } }

/-- A store below 0x4000 switches the bank, and the next load sees it. -/
theorem test_bank_switch :
    steps (banked ((State.reset.setHL 0x2000#16).setR8 .a 0x03#8)) [0x77#8] 2 (fun t => t.ext.chip.cells == [3, 0x10, 0x11, 0x12, 0x13] &&
      steps (t.setHL 0x4000#16) [0x7E#8] 2 (fun u => u.regs.a == 0x13#8 && u.ext.chip == t.ext.chip)) = true := by decide +kernel

/-- The chip refuses what it does not take, by the byte stored; unmapped addresses read 0xFF and keep nothing. -/
theorem test_bank_refuses :
    faultOf ((banked State.reset).memWrite 0x2000#16 0x04#8) = some (.addressingError 0x2000#16) ∧
    (banked State.reset).canRead 0xA000#16 = true ∧ (banked State.reset).busRead 0xA000#16 = 0xFF#8 ∧
    (banked State.reset).canWrite 0xBFFF#16 0x12#8 = true ∧
    (banked State.reset).busWrite 0xBFFF#16 0x12#8 = banked State.reset := by decide +kernel

/-- `LD A,(HL)` reads once, and `INC (HL)` reads and then writes. -/
theorem test_read_has_an_effect :
    steps (counting (State.reset.setHL 0xC000#16)) [0x7E#8] 2 (fun t => t.regs.a == 0x07#8 && t.ext.chip.cells == [8]) = true ∧
    steps (counting (State.reset.setHL 0xC000#16)) [0xBE#8] 2 (fun t => t.flags.c && t.ext.chip.cells == [8]) = true ∧
    steps (counting (State.reset.setHL 0xC000#16)) [0x34#8] 3 (fun t => t.ext.chip.cells == [8]) = true := by decide +kernel

/-- CYCLES and HALT_IDLE_MCYCLES given as arguments. -/
theorem test_given_counts :
    steps { State.reset with params := { cycleTable := .given [7] [] [] } } [0x00#8] 7 (fun _ => true) = true ∧
    steps { State.reset with halted := true, params := { haltIdleMCycles := 3 } } [] 3 (fun t => t.halted) = true := by
  decide +kernel

/-- OPCODE_MAP given: the byte 0x02 is LD A,d8, and 0x01 after 0xCB is SET 7,(HL); but the prefix and the undefined values stay. -/
def otherMap (s : State) : State :=
  { s with params := { opcodeMap := .given ([0x00#8, 0xCB#8, 0x3E#8]) ([0x00#8, 0xFE#8]) } }

theorem test_other_opcode_map :
    steps (otherMap State.reset) [0x02#8, 0x42#8] 2 (fun t => t.regs.a == 0x42#8 && t.pc == 0x0102#16) = true ∧
    steps (otherMap (State.reset.setHL 0xC000#16)) [0xCB#8, 0x01#8] 4 (fun t => t.ext.read 0xC000#16 == 0x80#8) = true ∧
    steps (otherMap State.reset) [0x01#8, 0x34#8, 0x12#8] 3 (fun t => t.bc == 0x1234#16) = true := by decide +kernel

/-- IMM_ORDER = highFirst: an immediate, and LD (a16),SP. -/
theorem test_high_byte_first :
    let s : State := { State.reset with params := { immOrder := .highFirst } }
    steps s [0x21#8, 0x12#8, 0x34#8] 3 (fun t => t.hl == 0x1234#16) = true ∧
    steps s [0x08#8, 0xC0#8, 0x00#8] 5 (fun t => t.ext.read 0xC000#16 == 0xFF#8 && t.ext.read 0xC001#16 == 0xFE#8) = true := by
  decide +kernel

/-- FLAG_BITS given: the flags upside down; PUSH AF stores 0xB0 after reset all the same. -/
theorem test_other_flag_bits :
    let p : Params := { flagBits := { z := 4, n := 5, h := 6, c := 7 } }
    let s := State.resetWith {} Ext.default [] p
    s.flags = { z := true, n := true, h := false, c := true } ∧ s.params.flagBits.wf = true ∧
    steps s [0xF5#8] 4 (fun t => t.ext.read 0xFFFC#16 == 0xB0#8) = true := by decide +kernel

/-- IE_WIDTH, the counter widths and LCD_FREE_RUN given. -/
theorem test_other_widths :
    (let s : State := { State.reset with params := { ieWidth := 5 } }
     (s.busWrite 0xFFFF#16 0xE4#8).ie = 0x04#8 ∧ (s.busWrite 0xFFFF#16 0xE4#8).busRead 0xFFFF#16 = 0xE4#8 ∧
       s.busRead 0xFFFF#16 = 0xE0#8) ∧
    (let s : State := { State.reset with
        params := { frameWidth := some 2 }
        lcd := { State.reset.lcd with mode := .hblank, dot := 455, ly := 143, frame := 3 } }
     s.lcdStep.lcd.frame = 0 ∧ s.strobes = [.frameComplete]) ∧
    (let s : State := { State.reset with params := { lcdFreeRun := false } }
     s.lcdStep = s ∧ State.lcdStep { s with lcd := { s.lcd with lcdc := 0x80#8 } } ≠ s) := by decide +kernel

/-! ## A state and operands that meet the hypotheses of each statement -/

/-- `Ext` refuses these addresses. -/
def refusing (lo hi : Word) (s : State) : State :=
  { s with ext := { s.ext with windows := [{ lo := lo, hi := hi, onRead := .refuse, onWrite := .refuse }] } }

/-- `Ext` refuses every address. -/
def shut : State := refusing 0x0000#16 0xFFFF#16 (State.reset.setHL 0xC000#16)

/-- The reset state with a display mode, a dot, a line and LCDC. -/
def shows (mode : LcdMode) (dot ly : Nat) (lcdc : Byte) : State :=
  { State.reset with lcd := { State.reset.lcd with mode := mode, dot := dot, ly := ly, lcdc := lcdc } }

/-- Requests enabled and pending. -/
def asks (ime : Bool) (s : State) : State := { s with ime := ime, ie := 0x1F#8, ifl := 0b01100#5 }

theorem witness_EncodeDecodeAgree : decode [0x3E#8, 0x42#8, 0x00#8] = .ok (.ld_A_d8 0x42#8, [0x00#8]) := by decide

theorem witness_DecodeIsTotal : decode [0xCD#8, 0x34#8] = .error .noOperand := by decide

theorem witness_UndefinedOpcodesFault :
    let s := State.reset.placeBytes 0x0100#16 [0xD3#8]
    s.halted = false ∧ s.hq = none ∧ s.canRead s.pc = true ∧ s.busRead s.pc = 0xD3#8 := by decide +kernel

/-- An instruction whose bytes wrap from 0xFFFF (`IE`) to 0x0000; STOP; and an instruction in another map. -/
theorem witness_StepRunsDecoded :
    (let s : State := { (State.reset.setPc 0xFFFF#16).placeBytes 0x0000#16 [0x42#8] with ie := 0x3E#8 }
     s.halted = false ∧ s.hq = none ∧ s.params.standardBytes [0x3E#8, 0x42#8] = encode (.ld_A_d8 0x42#8) ∧
       s.holdsAt s.pc [0x3E#8, 0x42#8]) ∧
    (let s := State.reset.placeBytes 0x0100#16 [0x10#8, 0x00#8]
     s.halted = false ∧ s.hq = none ∧ s.params.standardBytes [0x10#8, 0x00#8] = encode (.stop 0x00#8) ∧
       s.holdsAt s.pc [0x10#8, 0x00#8] ∧ s.params.stopBehaviour = .nop2) ∧
    (let s := (otherMap State.reset).placeBytes 0x0100#16 [0x02#8, 0x42#8]
     s.halted = false ∧ s.hq = none ∧ s.params.standardBytes [0x02#8, 0x42#8] = encode (.ld_A_d8 0x42#8) ∧
       s.holdsAt s.pc [0x02#8, 0x42#8]) := by
  simp only [State.holdsAt]
  decide +kernel

/-- The opcode byte refused, and the second and the third byte of a CALL; the second byte of STOP. -/
theorem witness_StepRunsDecoded_refused :
    (shut.halted = false ∧ shut.hq = none ∧ shut.params.standardBytes [0x00#8] = encode .nop ∧ 0 < Instr.length .nop ∧
      shut.canRead shut.pc = false) ∧
    (∀ k ∈ [1, 2],
      let s := refusing (0x0100#16 + BitVec.ofNat 16 k) 0x0102#16 (State.reset.placeBytes 0x0100#16 [0xCD#8, 0x34#8, 0x12#8])
      s.halted = false ∧ s.hq = none ∧ s.params.standardBytes [0xCD#8, 0x34#8, 0x12#8] = encode (.call_a16 0x1234#16) ∧
        k < Instr.length (.call_a16 0x1234#16) ∧ s.holdsAt s.pc ([0xCD#8, 0x34#8, 0x12#8].take k) ∧
        State.canRead (s.afterReads (addressesFrom s.pc k)) (s.pc + BitVec.ofNat 16 k) = false) ∧
    (let s := refusing 0x0101#16 0x0101#16 (State.reset.placeBytes 0x0100#16 [0x10#8])
     s.halted = false ∧ s.hq = none ∧ s.params.standardBytes [0x10#8, 0x00#8] = encode (.stop 0x00#8) ∧
       1 < Instr.length (.stop 0x00#8) ∧ s.holdsAt s.pc ([0x10#8, 0x00#8].take 1) ∧
       State.canRead (s.afterReads (addressesFrom s.pc 1)) (s.pc + 1#16) = false ∧ s.params.stopBehaviour = .nop2) := by
  simp only [List.forall_mem_cons, List.not_mem_nil, false_imp_iff, implies_true, and_true, List.take, State.holdsAt]
  decide +kernel

/-- Both stops on opcode 0x10, with the byte after it refused; and the arguments of the last clauses. -/
theorem witness_StepRunsDecoded_stop :
    (∀ b ∈ [StopBehaviour.refuse, .fault],
      let s : State := { refusing 0x0101#16 0x0101#16 (State.reset.placeBytes 0x0100#16 [0x10#8]) with
        params := { stopBehaviour := b } }
      s.halted = false ∧ s.hq = none ∧ s.params.opcodeMap.firstByte 0x10#8 = 0x10#8 ∧ s.holdsAt s.pc [0x10#8] ∧
        s.params.stopBehaviour = b) ∧
    (({} : Params).opcodeMap = .standard ∧ ({} : Params).immOrder = .lowFirst) ∧
    (0xC3#8 ∈ threeByteOpcodes ∧ ({ immOrder := .highFirst } : Params).opcodeMap = .standard) := by
  simp only [State.holdsAt]
  decide +kernel

theorem witness_QueuedByteIsFetched :
    (let s : State := { State.reset.placeBytes 0x0100#16 [0x3E#8] with hq := some 0x3E#8 }
     s.halted = false ∧ s.hq = some 0x3E#8 ∧ s.params.standardBytes (0x3E#8 :: [0x3E#8]) = encode (.ld_A_d8 0x3E#8) ∧
       s.holdsAt s.pc [0x3E#8]) ∧
    State.reset.hq = none ∧ State.reset.canRead State.reset.pc = true ∧ shut.hq = none ∧ shut.canRead shut.pc = false := by
  simp only [State.holdsAt]
  decide +kernel

/-- The first and the second byte at the pc refused after a queued CALL, and both stops on a queued 0x10. -/
theorem witness_QueuedByteIsFetched_refused :
    (∀ k ∈ [0, 1],
      let s : State := { refusing (0x0100#16 + BitVec.ofNat 16 k) 0x0102#16 (State.reset.placeBytes 0x0100#16 [0xCD#8]) with
        hq := some 0xCD#8 }
      s.halted = false ∧ s.hq = some 0xCD#8 ∧
        s.params.standardBytes (0xCD#8 :: [0xCD#8, 0x12#8]) = encode (.call_a16 0x12CD#16) ∧ k < 2 ∧
        s.holdsAt s.pc ([0xCD#8, 0x12#8].take k) ∧
        State.canRead (s.afterReads (addressesFrom s.pc k)) (s.pc + BitVec.ofNat 16 k) = false) ∧
    (∀ b ∈ [StopBehaviour.refuse, .fault],
      let s : State := { shut with hq := some 0x10#8, params := { stopBehaviour := b } }
      s.halted = false ∧ s.hq = some 0x10#8 ∧ s.params.opcodeMap.firstByte 0x10#8 = 0x10#8 ∧ s.params.stopBehaviour = b) := by
  simp only [List.forall_mem_cons, List.not_mem_nil, false_imp_iff, implies_true, and_true, List.take, State.holdsAt]
  decide +kernel

/-- Of ResetCpuRegisters, RegisterViews and DisplayAndMaskRegisters. -/
theorem witness_arguments :
    State.reset.params.flagBits.wf = true ∧ State.reset.params.flagBits = { z := 7, n := 6, h := 5, c := 4 } ∧
    FlagBits.wf { z := 4, n := 5, h := 6, c := 7 } = true ∧ FlagBits.wf { z := 7, n := 7, h := 5, c := 4 } = false ∧
    FlagBits.wf { z := 3, n := 6, h := 5, c := 4 } = false ∧ State.reset.params.ieWidth = 8 := by decide +kernel

theorem witness_MachineStepOrder :
    State.reset.irqIn = [] ∧
    State.irqIn { State.reset with irqIn := [{ serial := true, joypad := true }] } = { serial := true, joypad := true } :: [] := by
  decide

/-- At the last dot of a frame and the last tick of both accumulators, and from a full queue. -/
theorem witness_StepKeepsInvariant :
    (let s : State := { shows .vblank 455 153 0x80#8 with
      timer := { State.reset.timer with tac := 4#3, divAcc := 255, timaAcc := 1023 } }
     s.Inv ∧ ∃ t, step s = .next t) ∧
    (let s : State := { State.reset with hq := some 0x00#8 }
     s.Inv ∧ ∃ t, step s = .next t) :=
  ⟨⟨by decide +kernel, exists_of_answers (by decide +kernel)⟩, by decide +kernel, exists_of_answers (by decide +kernel)⟩

theorem witness_StepKeepsImageAndArguments :
    (∃ t, step ((State.reset.setHL 0x7FFF#16).placeBytes 0x0100#16 [0x77#8]) = .next t) ∧ (0x7FFF#16).toNat < 0x8000 ∧
    State.reset.ext.writeKind 0x7FFF#16 ≠ .memory ∧ State.reset.ext.windows = [] ∧ State.reset.ext.noChip :=
  ⟨exists_of_answers (by decide +kernel), by decide, by decide +kernel, rfl, by decide +kernel⟩

theorem witness_LoadAndStoreAtHL :
    (State.reset.canRead State.reset.hl = true ∧ State.reset.canWrite State.reset.hl (State.reset.getR8 .e) = true) ∧
    (let s := State.reset.setHL 0xFFFF#16
     s.canRead s.hl = true ∧ s.canWrite s.hl (s.getR8 .l) = true ∧ s.canWrite s.hl 0xFF#8 = true) ∧
    shut.canRead shut.hl = false ∧ shut.canWrite shut.hl (shut.getR8 .h) = false ∧ shut.canWrite shut.hl 0x00#8 = false ∧
    (let s := banked (State.reset.setHL 0x2000#16)
     s.canWrite s.hl 0x03#8 = true ∧ s.canWrite s.hl 0x04#8 = false) := by decide +kernel

theorem witness_LoadAndStoreAccumulator :
    ([State.reset.bc, State.reset.de, 0xFFFF#16, 0xFF00#16 + State.reset.regs.c.setWidth 16].all fun a =>
      State.reset.canRead a && State.reset.canWrite a State.reset.regs.a) = true ∧
    ([shut.bc, shut.de, 0xC000#16, 0xFF00#16 + shut.regs.c.setWidth 16].all fun a =>
      !shut.canRead a && !shut.canWrite a shut.regs.a) = true := by decide +kernel

theorem witness_LoadAndStoreWithHLStep :
    (State.reset.canRead State.reset.hl = true ∧ State.reset.canWrite State.reset.hl State.reset.regs.a = true) ∧
    shut.canRead shut.hl = false ∧ shut.canWrite shut.hl shut.regs.a = false := by decide +kernel

/-- Also across the end of the address space. -/
theorem witness_LoadWord :
    (let s := State.reset
     s.canWrite 0xFFFF#16 (loByte s.sp) = true ∧
       (s.busWrite 0xFFFF#16 (loByte s.sp)).canWrite (0xFFFF#16 + 1#16) (hiByte s.sp) = true) ∧
    shut.canWrite 0xC000#16 (loByte shut.sp) = false ∧
    (let s := refusing 0xC001#16 0xC001#16 State.reset
     s.canWrite 0xC000#16 (loByte s.sp) = true ∧
       (s.busWrite 0xC000#16 (loByte s.sp)).canWrite (0xC000#16 + 1#16) (hiByte s.sp) = false) := by decide +kernel

/-- The two stores of a push of this word are taken; the first is refused; the second is refused. -/
def pushes (s : State) (v : Word) : Bool :=
  s.canWrite (s.sp - 1#16) (hiByte v) && (s.busWrite (s.sp - 1#16) (hiByte v)).canWrite (s.sp - 2#16) (loByte v)
def refusesHigh (s : State) (v : Word) : Bool := !s.canWrite (s.sp - 1#16) (hiByte v)
def refusesLow (s : State) (v : Word) : Bool :=
  s.canWrite (s.sp - 1#16) (hiByte v) && !(s.busWrite (s.sp - 1#16) (hiByte v)).canWrite (s.sp - 2#16) (loByte v)

/-- The two loads of a pop are answered; the second is refused. -/
def pops (s : State) : Bool := s.canRead s.sp && (s.afterRead s.sp).canRead (s.sp + 1#16)
def refusesSecond (s : State) : Bool := s.canRead s.sp && !(s.afterRead s.sp).canRead (s.sp + 1#16)

theorem witness_PushAndPop :
    ([Stk16.bc, .de, .hl, .af].all fun q =>
      pushes (State.reset.setSp 0x0001#16) (State.reset.getStk q) && refusesHigh shut (shut.getStk q) &&
        refusesLow (refusing 0xFFFC#16 0xFFFC#16 State.reset) (State.reset.getStk q)) = true ∧
    pops (State.reset.setSp 0xFFFF#16) = true ∧ shut.canRead shut.sp = false ∧
    refusesSecond (refusing 0xC001#16 0xC001#16 (State.reset.setSp 0xC000#16)) = true := by decide +kernel

theorem witness_PopUndoesPush :
    let s := State.reset.setSp 0x8002#16
    s.ext.mem.wf = true ∧ s.plainRam (s.sp - 1#16) ∧ s.plainRam (s.sp - 2#16) ∧ s.params.flagBits.wf = true := by
  decide +kernel

/-- Of AddWithAndWithoutCarry, SubtractAndCompare and BitwiseLogic. -/
theorem witness_AccumulatorSources :
    State.reset.getR8 .e = 0xD8#8 ∧
    (let s := (State.reset.setHL 0xC000#16).placeBytes 0xC000#16 [0xFE#8]
     s.canRead s.hl = true ∧ s.busRead s.hl = 0xFE#8) ∧
    shut.canRead shut.hl = false := by decide +kernel

/-- Of IncrementByte, DecrementByte, RotatesAndShifts and BitTestResetSet. -/
theorem witness_ReadModifyWrite :
    ([0x00#8, 0xFF#8].all fun v => State.reset.canRead State.reset.hl &&
      (State.reset.afterRead State.reset.hl).canWrite State.reset.hl v) = true ∧
    (let s : State := { shut with ext := { shut.ext with
      windows := [{ lo := 0xC000#16, hi := 0xC000#16, onRead := .memory, onWrite := .refuse }] } }
     s.canRead s.hl = true ∧ (s.afterRead s.hl).canWrite s.hl (s.busRead s.hl + 1#8) = false) ∧
    shut.canRead shut.hl = false ∧
    (RotOp.rlc, Instr.rlca) ∈ [(RotOp.rlc, Instr.rlca), (.rrc, .rrca), (.rl, .rla), (.rr, .rra)] := by decide +kernel

theorem witness_DecimalAdjust :
    (99 < 100) ∧ State.regs (State.reset.setR8 .a 0x99#8) = { State.reset.regs with a := BitVec.ofNat 8 (99 / 10 * 16 + 99 % 10) } := by
  decide +kernel

theorem witness_SignedAddCarriesAreUnsigned :
    ∃ t, exec (.add_SP_e8 0xFF#8) (State.reset.setSp 0x0001#16) = .next t := ⟨_, rfl⟩

theorem witness_CallsAndRestarts :
    pushes (State.reset.setSp 0x0001#16) State.reset.pc = true ∧ refusesHigh shut shut.pc = true ∧
    refusesLow (refusing 0xFFFC#16 0xFFFC#16 State.reset) State.reset.pc = true ∧
    condHolds .z State.reset.flags = true ∧ condHolds .nz State.reset.flags = false := by decide +kernel

theorem witness_Returns :
    pops (State.reset.setSp 0xFFFF#16) = true ∧ shut.canRead shut.sp = false ∧
    refusesSecond (refusing 0xC001#16 0xC001#16 (State.reset.setSp 0xC000#16)) = true ∧
    condHolds .c State.reset.flags = true ∧ condHolds .nc State.reset.flags = false := by decide +kernel

theorem witness_NopAndHalt :
    (asks true State.reset).ime = true ∧ (State.reset.ie.setWidth 5 &&& State.reset.ifl = 0#5) ∧
    (let s := asks false State.reset
     s.ime = false ∧ s.ie.setWidth 5 &&& s.ifl ≠ 0#5 ∧ s.canRead s.pc = true) ∧
    (let s := asks false shut
     s.ime = false ∧ s.ie.setWidth 5 &&& s.ifl ≠ 0#5 ∧ s.canRead s.pc = false) := by decide +kernel

theorem witness_InterruptEnablesAndStop :
    ({} : Params).eiDelay = false ∧ ({ eiDelay := true } : Params).eiDelay = true ∧
    State.reset.params.stopBehaviour = .nop2 ∧ ({} : Params).stopBehaviour = .refuse ∧
    ({ stopBehaviour := .fault } : Params).stopBehaviour = .fault := by decide

/-- HALT at the reset pc with nothing, with IME set and with IME clear; and the same three halted. -/
theorem witness_HaltAndWake :
    (let s := State.reset.placeBytes 0x0100#16 [0x76#8]
     s.halted = false ∧ s.hq = none ∧ s.imePending = false ∧ s.params.opcodeMap.firstByte 0x76#8 = 0x76#8 ∧ s.holdsAt s.pc [0x76#8] ∧ s.ie.setWidth 5 &&& s.ifl = 0#5) ∧
    (let s := asks true (State.reset.placeBytes 0x0100#16 [0x76#8])
     s.halted = false ∧ s.hq = none ∧ s.imePending = false ∧ s.params.opcodeMap.firstByte 0x76#8 = 0x76#8 ∧ s.holdsAt s.pc [0x76#8] ∧ s.ime = true ∧
       s.firstPending = some .timer) ∧
    (let s := asks false (State.reset.placeBytes 0x0100#16 [0x76#8])
     s.halted = false ∧ s.hq = none ∧ s.imePending = false ∧ s.params.opcodeMap.firstByte 0x76#8 = 0x76#8 ∧ s.holdsAt s.pc [0x76#8] ∧ s.ie.setWidth 5 &&& s.ifl ≠ 0#5 ∧
       s.ime = false ∧ ({ s.afterRead s.pc with pc := s.pc + 1#16 } : State).canRead (s.pc + 1#16) = true) ∧
    (let s : State := { State.reset with halted := true }
     s.halted = true ∧ s.imePending = false ∧ s.ie.setWidth 5 &&& s.ifl = 0#5) ∧
    (let s : State := { asks false State.reset with halted := true }
     s.halted = true ∧ s.imePending = false ∧ s.ie.setWidth 5 &&& s.ifl ≠ 0#5 ∧ s.ime = false) ∧
    (let s : State := { asks true State.reset with halted := true }
     s.halted = true ∧ s.imePending = false ∧ s.ime = true ∧ s.firstPending = some .timer) := by
  simp only [State.holdsAt]
  decide +kernel

theorem witness_InterruptCheckServesLeast :
    (∀ k ∈ [Irq.vblank, .lcdStatus, .timer, .serial, .joypad], State.reset.wants k = false) ∧
    (asks false State.reset).wants .serial = true ∧ (asks false State.reset).ime = false ∧
    (asks true State.reset).wants .timer = true ∧ (asks true State.reset).ime = true ∧
    ∀ j ∈ [Irq.vblank, .lcdStatus], (asks true State.reset).wants j = false := by decide

theorem witness_TrapEntry :
    pushes { State.reset with ifl := 0x1E#5, ime := false } State.reset.pc = true ∧ refusesHigh shut shut.pc = true ∧
    refusesLow { refusing 0xFFFC#16 0xFFFC#16 State.reset with ifl := 0x1E#5, ime := false } State.reset.pc = true := by
  decide +kernel

theorem witness_RetiUndoesTrapEntry :
    State.reset.ext.mem.wf = true ∧ State.reset.plainRam (State.reset.sp - 1#16) ∧
    State.reset.plainRam (State.reset.sp - 2#16) := by decide +kernel

/-- Both ends of both ranges, locked and not, and the addresses just outside them and in work RAM, in both modes. -/
theorem witness_VideoMemoryLockout :
    ([0x8000#16, 0x9FFF#16].all fun a => (shows .pixelTransfer 100 0 0x80#8).owner a == .locked &&
      (shows .hblank 300 0 0x80#8).owner a == .ext && (shows .pixelTransfer 100 0 0x7F#8).owner a == .ext) = true ∧
    ([0xFE00#16, 0xFE9F#16].all fun a => (shows .oamSearch 0 0 0x80#8).owner a == .locked &&
      (shows .pixelTransfer 100 0 0x80#8).owner a == .locked && (shows .vblank 0 144 0x80#8).owner a == .ext) = true ∧
    ([0x7FFF#16, 0xA000#16, 0xC000#16, 0xFDFF#16, 0xFEA0#16].all fun a => decide (a ∉ blockRegisters) &&
      (shows .pixelTransfer 100 0 0x80#8).owner a == .ext && (shows .oamSearch 0 0 0x80#8).owner a == .ext) = true := by
  decide +kernel

/-- Each way to answer and to take an access, and the default `Ext` at both sides of the end of the program image. -/
theorem witness_ExternalMemory :
    (let s := State.reset
     s.ext.windows = [] ∧ s.ext.mem.wf = true ∧
       ([0x7FFF#16, 0x8000#16, 0xFEA0#16, 0xFFFE#16].all fun a => s.owner a == .ext && s.ext.readKind a == .memory) = true ∧
       s.ext.writeKind 0x7FFF#16 = .ignore ∧ s.ext.writeKind 0x8000#16 = .memory) ∧
    (let s := banked State.reset
     s.owner 0xA000#16 = .ext ∧ s.ext.readKind 0xA000#16 = .fixed 0xFF#8 ∧ s.owner 0x7FFF#16 = .ext ∧
       s.ext.readKind 0x7FFF#16 = .chip ∧ s.ext.writeKind 0x3FFF#16 = .chip ∧
       s.ext.chip.onRead.run 0x7FFF 0 s.ext.chip.cells = some (0x11, s.ext.chip.cells) ∧
       s.ext.chip.onWrite.run 0x3FFF 3 s.ext.chip.cells = some (0, [3, 0x10, 0x11, 0x12, 0x13]) ∧
       s.ext.chip.onWrite.run 0x3FFF 4 s.ext.chip.cells = none ∧ ∃ t, s.memWrite 0x3FFF#16 0x03#8 = .next t) ∧
    (let s : State := { banked State.reset with ext := { (banked State.reset).ext with
      chip := { cells := [], onRead := .refuse, onWrite := .refuse } } }
     s.ext.readKind 0x4000#16 = .chip ∧ s.ext.chip.onRead.run 0x4000 0 s.ext.chip.cells = none) ∧
    shut.owner 0xC000#16 = .ext ∧ shut.ext.readKind 0xC000#16 = .refuse ∧ shut.ext.writeKind 0xC000#16 = .refuse :=
  ⟨by decide +kernel, ⟨by decide +kernel, by decide +kernel, by decide +kernel, by decide +kernel, by decide +kernel,
    by decide +kernel, by decide +kernel, by decide +kernel, exists_of_answers (by decide +kernel)⟩, by decide +kernel,
    by decide +kernel⟩

theorem witness_TimerOverflowAfter4096Ticks :
    let s : State := { State.reset with timer := { State.reset.timer with tac := 5#3, tma := 0x37#8 } }
    s.timer.tac = 0b101#3 ∧ s.timer.tima = 0#8 ∧ s.timer.timaAcc = 0 := by decide

theorem witness_DisplayModeChanges :
    ((shows .oamSearch 78 0 0x80#8).lcd.mode = .oamSearch ∧ (shows .oamSearch 78 0 0x80#8).lcd.dot ≠ 79) ∧
    ((shows .hblank 454 0 0x80#8).lcd.mode = .hblank ∧ (shows .hblank 454 0 0x80#8).lcd.dot ≠ 455) ∧
    (let s := shows .oamSearch 79 0 0x80#8
     s.lcd.mode = .oamSearch ∧ s.lcd.dot = 79) ∧
    (let s := shows .hblank 455 143 0x80#8
     s.lcd.mode = .hblank ∧ s.lcd.dot = 455 ∧ s.lcd.ly = 143) ∧
    (let s := shows .hblank 455 142 0x80#8
     s.lcd.mode = .hblank ∧ s.lcd.dot = 455 ∧ s.lcd.ly ≠ 143 ∧ s.params.lcdFreeRun = true) ∧
    (let s : State := { shows .hblank 455 142 0x80#8 with params := { lcdFreeRun := false } }
     s.params.lcdFreeRun = false ∧ s.lcd.lcdc.getLsbD 7 = true) ∧
    (let s : State := { shows .hblank 455 142 0x7F#8 with params := { lcdFreeRun := false } }
     ¬(s.params.lcdFreeRun = true ∨ s.lcd.lcdc.getLsbD 7 = true)) := by decide

/-- Each clause, the first at its ends and at the two sides of the first pixel. -/
theorem witness_PixelTransferAndVBlankLines :
    (∀ p ∈ [1, 12, 13, 172], 1 ≤ p ∧ p ≤ 172 ∧ (shows .pixelTransfer (79 + p) 0 0x80#8).lcd.mode = .pixelTransfer ∧
      (shows .pixelTransfer (79 + p) 0 0x80#8).lcd.dot + 1 = 80 + p) ∧
    (∀ y ∈ [144, 153], (shows .vblank 455 y 0x80#8).lcd.mode = .vblank ∧ (shows .vblank 455 y 0x80#8).lcd.dot = 455) ∧
    (shows .vblank 0 144 0x80#8).lcd.mode = .vblank ∧ (shows .vblank 0 144 0x80#8).lcd.dot ≠ 455 ∧
    (shows .vblank 0 144 0x80#8).params.lcdFreeRun = true := by decide +kernel

theorem witness_DisplayIsAClock :
    (State.reset.lcd.inRange ∧ (shows .vblank 455 153 0x80#8).lcd.inRange ∧
      (shows .pixelTransfer 251 143 0x80#8).lcd.inRange) ∧
    State.reset.params.lcdFreeRun = true ∧
    (let s : State := { State.reset with params := { lcdFreeRun := false } }
     s.params.lcdFreeRun = false ∧ s.lcd.lcdc.getLsbD 7 = false) :=
  ⟨⟨by decide +kernel, by decide +kernel, by decide +kernel⟩, rfl, rfl, rfl⟩

/-! Of the frames: every instruction named in them answers a next state from reset. -/

theorem witness_LoadFrame :
    ∀ i ∈ [Instr.ld8 .h .mHL, .ld8 .a .b, .ld8Imm .c 0xFF#8, .ld_A_mBC, .ld_A_mDE, .ld_A_ma16 0xFFFF#16, .ldh_A_mC,
      .ldh_A_ma8 0x44#8, .ld_A_mHLi, .ld_A_mHLd], answers (exec i State.reset) = true := by decide +kernel

theorem witness_StoreFrame :
    ∀ i ∈ [Instr.ld8 .mHL .l, .ld8Imm .mHL 0x01#8, .ld_mBC_A, .ld_mDE_A, .ld_ma16_A 0xFF41#16, .ldh_mC_A, .ldh_ma8_A 0x04#8,
      .ld_mHLi_A, .ld_mHLd_A], answers (exec i State.reset) = true := by decide +kernel

theorem witness_AccumulatorFrame :
    ∀ i ∈ [Instr.aluOf .cp .mHL, .aluOf .add .b, .aluImm .cp 0x01#8, .rlca, .rrca, .rla, .rra, .daa, .cpl, .scf, .ccf,
      .bitOf .b7 .mHL], answers (exec i State.reset) = true := by decide +kernel

theorem witness_ReadModifyWriteFrame :
    ∀ i ∈ [Instr.inc8 .mHL, .dec8 .a, .rotOf .swap .mHL, .resOf .b0 .mHL, .setOf .b7 .c], answers (exec i State.reset) = true := by
  decide +kernel

theorem witness_WordFrame :
    ∀ i ∈ [Instr.ld16Imm .sp 0x1234#16, .inc16 .bc, .dec16 .sp, .addHL .sp, .ld_HL_SPe8 0x80#8, .add_SP_e8 0x80#8, .ld_SP_HL,
      .popOf .af, .pushOf .af, .ld_ma16_SP 0xFFFF#16], answers (exec i State.reset) = true := by decide +kernel

theorem witness_ControlFrame :
    ∀ i ∈ [Instr.jp_a16 0x0000#16, .jpCond .nz 0x1234#16, .jp_HL, .jr_e8 0x80#8, .jrCond .z 0x7F#8, .call_a16 0x1234#16,
      .callCond .z 0x1234#16, .callCond .nz 0x1234#16, .rstOf .t38, .ret, .retCond .c, .retCond .nc, .reti, .nop, .halt,
      .stop 0x00#8, .di, .ei], answers (exec i State.reset) = true := by decide +kernel

theorem witness_OnlyTheseChangeControlState :
    (∃ t, exec .ei State.reset = .next t ∧ t.ime = true ∧ State.reset.ime = false) ∧
    (∃ t, exec .halt State.reset = .next t ∧ t.halted ≠ State.reset.halted) ∧
    (∃ t, exec .inc_SP State.reset = .next t ∧ t.sp ≠ State.reset.sp) ∧
    ∃ t, exec .jp_HL State.reset = .next t ∧ t.pc ≠ State.reset.pc :=
  ⟨⟨_, rfl, by decide⟩, ⟨_, rfl, by decide⟩, ⟨_, rfl, by decide⟩, ⟨_, rfl, by decide⟩⟩

end Sys2Proof.Machine.Tests
end

section
/-! SUPPORT. The `F` view under FLAG_BITS (R22): reading it back after a byte was written to it, and the CPU registers at
reset (R48). -/
namespace Sys2Proof.Machine

/-- The admissible FLAG_BITS are four different places in the high nibble. -/
theorem FlagBits.wf_iff (p : FlagBits) :
    p.wf = true ↔ (4 ≤ p.z ∧ p.z < 8) ∧ (4 ≤ p.n ∧ p.n < 8) ∧ (4 ≤ p.h ∧ p.h < 8) ∧ (4 ≤ p.c ∧ p.c < 8) ∧
      p.z ≠ p.n ∧ p.z ≠ p.h ∧ p.z ≠ p.c ∧ p.n ≠ p.h ∧ p.n ≠ p.c ∧ p.h ≠ p.c := by
  simp [FlagBits.wf, and_assoc]

/-- Four different places among four: every bit of the high nibble is some flag's place, and no other bit is. -/
theorem FlagBits.place_iff {p : FlagBits} (hp : p.wf = true) (j : Nat) :
    (p.z = j ∨ p.n = j ∨ p.h = j ∨ p.c = j) ↔ 4 ≤ j ∧ j < 8 := by
  rw [FlagBits.wf_iff] at hp
  omega

theorem getLsbD_flagAt (i : Nat) (b : Bool) (j : Nat) (hj : j < 8) : (flagAt i b).getLsbD j = (b && decide (i = j)) := by
  cases b
  · simp [flagAt]
  · have shift_zero : i ≤ j ∧ j - i = 0 ↔ i = j := by omega
    rw [Bool.eq_iff_iff]
    simp [flagAt, hj, shift_zero]

/-- A bit of the `F` view of a written byte is that byte's bit where some flag has its place, and clear elsewhere. -/
theorem Flags.getLsbD_toByte_ofByte (p : FlagBits) (v : Byte) (j : Nat) (hj : j < 8) :
    ((Flags.ofByte p v).toByte p).getLsbD j = (v.getLsbD j && decide (p.z = j ∨ p.n = j ∨ p.h = j ∨ p.c = j)) := by
  have at_place (i : Nat) : (v.getLsbD i && decide (i = j)) = (v.getLsbD j && decide (i = j)) := by
    by_cases h : i = j <;> simp [h]
  simp only [Flags.toByte, Flags.ofByte, BitVec.getLsbD_or, getLsbD_flagAt _ _ j hj, at_place, Bool.decide_or,
    Bool.and_or_distrib_left, Bool.or_assoc]

/-- A byte written to `F` reads back with its low nibble dropped (R22). -/
theorem Flags.toByte_ofByte {p : FlagBits} (hp : p.wf = true) (v : Byte) :
    (Flags.ofByte p v).toByte p = v &&& 0xF0#8 := by
  refine BitVec.eq_of_getLsbD_eq fun j hj => ?_
  have nibble : ∀ j < 8, (0xF0#8).getLsbD j = decide (4 ≤ j ∧ j < 8) := by decide
  simp only [Flags.getLsbD_toByte_ofByte p v j hj, FlagBits.place_iff hp j, BitVec.getLsbD_and, nibble j hj]

/-- The pairs at reset (R48). -/
theorem State.resetWith_pairs (io : ResetIO) (ext : Ext) (irqIn : List ExtRequest) (params : Params) :
    let s := State.resetWith io ext irqIn params
    s.bc = 0x0013#16 ∧ s.de = 0x00D8#16 ∧ s.hl = 0x014D#16 := by
  change word16 0x00#8 0x13#8 = 0x0013#16 ∧ word16 0x00#8 0xD8#8 = 0x00D8#16 ∧ word16 0x01#8 0x4D#8 = 0x014D#16
  decide

/-- At reset the flags are those of the byte 0xB0 written to `F` (R48). -/
theorem State.resetWith_flags (io : ResetIO) (ext : Ext) (irqIn : List ExtRequest) (params : Params) :
    let s := State.resetWith io ext irqIn params
    s.flags = Flags.ofByte s.params.flagBits 0xB0#8 := rfl

theorem State.reset_eq_resetWith : State.reset = State.resetWith {} Ext.default [] { stopBehaviour := .nop2 } := rfl

/-- Settles O10: `State.reset` is one of the states `State.resetWith` gives, and in each the flags are read out of 0xB0, whose
low nibble is clear. -/
theorem resetCpuRegisters : Obligations.ResetCpuRegisters := by
  unfold Obligations.ResetCpuRegisters
  intro io ext irqIn params s hs
  obtain ⟨io', ext', irqIn', params', rfl⟩ : ∃ io ext irqIn params, s = State.resetWith io ext irqIn params := by
    rw [List.mem_pair, State.reset_eq_resetWith] at hs
    obtain rfl | rfl := hs <;> exact ⟨_, _, _, _, rfl⟩
  obtain ⟨hbc, hde, hhl⟩ := State.resetWith_pairs io' ext' irqIn' params'
  refine ⟨rfl, rfl, rfl, hbc, hde, hhl, fun hwf => ?_, fun hdefault => ?_⟩
  · rw [State.resetWith_flags, Flags.toByte_ofByte hwf]
    decide
  · rw [State.resetWith_flags, hdefault]
    decide

end Sys2Proof.Machine
end

section
/-! SUPPORT. The bus by the owner of the address: a block register's owner is decided by its address alone, `Ext` answers the
addresses it owns, and no other access raises or changes more than its register. -/
namespace Sys2Proof.Machine

namespace State

variable (s : State)

/-- The other direction of `owner_address`: no lockout range holds a block register's address (20_memory.md R63). -/
theorem owner_of_address {o : Owner} {a : Word} (h : o.address = some a) : s.owner a = o := by
  cases o <;> cases h <;> simp [owner, vramLocked, oamLocked]

theorem memRead_of_owner {a : Word} (h : s.owner a ≠ .ext) : s.memRead a = .next (s.busRead a, s) := by
  rw [memRead_of_canRead _ (by simp [canRead, h]), s.afterRead_of_owner h]

theorem memWrite_of_owner {a : Word} (v : Byte) (h : s.owner a ≠ .ext) : s.memWrite a v = .next (s.busWrite a v) :=
  memWrite_of_canWrite _ (by simp [canWrite, h])

/-- A read of an address of `Ext` is `Ext`'s read (20_memory.md R64, R67). -/
theorem memRead_of_ext {a : Word} (h : s.owner a = .ext) :
    s.memRead a =
      if s.ext.refusesRead a then .fault (.addressingError a)
      else .next (s.ext.read a, { s with ext := s.ext.afterRead a }) := by
  cases hr : s.ext.refusesRead a <;> simp [memRead, canRead, busRead, afterRead, h, hr]

/-- A store to an address of `Ext` is `Ext`'s write (20_memory.md R65, R67). -/
theorem memWrite_of_ext {a : Word} (v : Byte) (h : s.owner a = .ext) :
    s.memWrite a v =
      if s.ext.refusesWrite a v then .fault (.addressingError a) else .next { s with ext := s.ext.write a v } := by
  cases hr : s.ext.refusesWrite a v <;> simp [memWrite, canWrite, busWrite, h, hr]

/-- A read that the chip answers runs its read program on its cells. -/
theorem memRead_of_chip {a : Word} (h : s.owner a = .ext) (hk : s.ext.readKind a = .chip) :
    s.memRead a =
      match s.ext.chip.onRead.run a.toNat 0 s.ext.chip.cells with
      | some p => .next (BitVec.ofNat 8 p.1, s.withCells p.2)
      | none => .fault (.addressingError a) := by
  rw [s.memRead_of_ext h]
  cases hr : s.ext.chip.onRead.run a.toNat 0 s.ext.chip.cells <;>
    simp [Ext.refusesRead, Ext.read, Ext.afterRead, Chip.read, withCells, hk, hr]

/-- A store that the chip takes runs its write program on its cells. -/
theorem memWrite_of_chip {a : Word} (v : Byte) (h : s.owner a = .ext) (hk : s.ext.writeKind a = .chip) :
    s.memWrite a v =
      match s.ext.chip.onWrite.run a.toNat v.toNat s.ext.chip.cells with
      | some p => .next (s.withCells p.2)
      | none => .fault (.addressingError a) := by
  rw [s.memWrite_of_ext v h]
  cases hr : s.ext.chip.onWrite.run a.toNat v.toNat s.ext.chip.cells <;>
    simp [Ext.refusesWrite, Ext.write, Chip.write, withCells, hk, hr]

end State

/-- With no window every address answers as the spec's default `Ext` (D24). -/
theorem Ext.kinds_of_no_window {x : Ext} (h : x.windows = []) (a : Word) :
    x.readKind a = .memory ∧ x.writeKind a = if 0x8000 ≤ a.toNat then .memory else .ignore := by
  simp [readKind, writeKind, window?, h]

/-- A store to the stored bytes, at an address of the bus: canonical form, the byte itself, every other byte. -/
theorem Memory.write_word {m : Memory} (h : m.wf = true) (a : Word) (v : Byte) :
    Memory.wf (m.write a.toNat v) = true ∧ Memory.read (m.write a.toNat v) a.toNat = v ∧
      ∀ b : Word, b ≠ a → Memory.read (m.write a.toNat v) b.toNat = m.read b.toNat :=
  ⟨m.write_wf a.toNat v a.isLt h, read_write_same a.toNat v h,
    fun b hb => m.read_write_other a.toNat b.toNat v fun e => hb (BitVec.eq_of_toNat_eq e)⟩

/-- Settles O46: the bus passes an access to an address of `Ext` on, where each kind of window answers it in its own way; the
frame is that of every store. -/
theorem externalMemory : Obligations.ExternalMemory := by
  unfold Obligations.ExternalMemory
  intro s a v owned
  have reads := s.memRead_of_ext owned
  have writes := s.memWrite_of_ext v owned
  refine ⟨fun memory => ?_, fun b fixed => ?_, fun refuse => ?_, fun chip => ⟨fun n c runs => ?_, fun refuses => ?_⟩,
    fun memory canonical => ?_, fun ignore => ?_, fun refuse => ?_, fun chip => ⟨fun n c runs => ?_, fun refuses => ?_⟩,
    fun noWindow => s.ext.kinds_of_no_window noWindow a, fun t stored => ?_⟩
  · simp [reads, Ext.refusesRead, Ext.read, Ext.afterRead, memory]
  · simp [reads, Ext.refusesRead, Ext.read, Ext.afterRead, fixed]
  · simp [reads, Ext.refusesRead, refuse]
  · rw [s.memRead_of_chip owned chip, runs]; rfl
  · rw [s.memRead_of_chip owned chip, refuses]
  · obtain ⟨wf, same, other⟩ := Memory.write_word canonical a v
    exact ⟨_, wf, by simp [writes, Ext.refusesWrite, Ext.write, memory], same, other⟩
  · simp [writes, Ext.refusesWrite, Ext.write, ignore]
  · simp [writes, Ext.refusesWrite, refuse]
  · rw [s.memWrite_of_chip v owned chip, runs]; rfl
  · rw [s.memWrite_of_chip v owned chip, refuses]
  · obtain ⟨-, rfl⟩ := State.memWrite_eq_next.mp stored
    exact s.storesOnly_busWrite a v

/-- The three bits that `IF` lacks read as 1 (20_memory.md R74). -/
theorem setWidth_or_ifReadOr (f : BitVec 5) : f.setWidth 8 ||| Config.ifReadOr = 0b111#3 ++ f := by
  revert f; decide

/-- Settles O44: each of the four addresses has its block register as owner, which neither raises nor reaches further. -/
theorem timerAndRequestRegisters : Obligations.TimerAndRequestRegisters := by
  unfold Obligations.TimerAndRequestRegisters
  intro s v
  have div : s.owner 0xFF04#16 = .div := s.owner_of_address rfl
  have tima : s.owner 0xFF05#16 = .tima := s.owner_of_address rfl
  have tma : s.owner 0xFF06#16 = .tma := s.owner_of_address rfl
  have iflag : s.owner 0xFF0F#16 = .iflag := s.owner_of_address rfl
  have lowBits : v.extractLsb' 0 5 = v.setWidth 5 := (BitVec.setWidth_eq_extractLsb' (by decide)).symm
  simp [s.memRead_of_owner, s.memWrite_of_owner, State.busRead, State.busWrite, div, tima, tma, iflag, lowBits,
    setWidth_or_ifReadOr]

end Sys2Proof.Machine
end

section
/-! SUPPORT. The bytes of an instruction: decoding gives back every instruction, and the opcode byte says how many bytes
follow it, in every map and byte order (30_encoding.md R100, R121; 00_scope.md R6). -/
namespace Sys2Proof

open Laws.RoundTrip in
/-- Decoding gives back every instruction: the constructors in their order, each by its own lemma. -/
theorem decode_encode (i : Instr) : Statement i :=
  @Instr.rec Statement ld_BC_d16 ld_B_d8 ld_ma16_SP ld_C_d8 stop ld_DE_d16 ld_D_d8 jr_e8 ld_E_d8 jr_NZ_e8 ld_HL_d16
    ld_H_d8 jr_Z_e8 ld_L_d8 jr_NC_e8 ld_SP_d16 ld_mHL_d8 jr_C_e8 ld_A_d8 jp_NZ_a16 jp_a16 call_NZ_a16 add_A_d8
    jp_Z_a16 call_Z_a16 call_a16 adc_A_d8 jp_NC_a16 call_NC_a16 sub_d8 jp_C_a16 call_C_a16 sbc_A_d8 ldh_ma8_A and_d8
    add_SP_e8 ld_ma16_A xor_d8 ldh_A_ma8 or_d8 ld_HL_SPe8 ld_A_ma16 cp_d8 nop ld_mBC_A inc_BC inc_B dec_B rlca
    add_HL_BC ld_A_mBC dec_BC inc_C dec_C rrca ld_mDE_A inc_DE inc_D dec_D rla add_HL_DE ld_A_mDE dec_DE inc_E dec_E
    rra ld_mHLi_A inc_HL inc_H dec_H daa add_HL_HL ld_A_mHLi dec_HL inc_L dec_L cpl ld_mHLd_A inc_SP inc_mHL dec_mHL
    scf add_HL_SP ld_A_mHLd dec_SP inc_A dec_A ccf ld_B_B ld_B_C ld_B_D ld_B_E ld_B_H ld_B_L ld_B_mHL ld_B_A ld_C_B
    ld_C_C ld_C_D ld_C_E ld_C_H ld_C_L ld_C_mHL ld_C_A ld_D_B ld_D_C ld_D_D ld_D_E ld_D_H ld_D_L ld_D_mHL ld_D_A
    ld_E_B ld_E_C ld_E_D ld_E_E ld_E_H ld_E_L ld_E_mHL ld_E_A ld_H_B ld_H_C ld_H_D ld_H_E ld_H_H ld_H_L ld_H_mHL
    ld_H_A ld_L_B ld_L_C ld_L_D ld_L_E ld_L_H ld_L_L ld_L_mHL ld_L_A ld_mHL_B ld_mHL_C ld_mHL_D ld_mHL_E ld_mHL_H
    ld_mHL_L halt ld_mHL_A ld_A_B ld_A_C ld_A_D ld_A_E ld_A_H ld_A_L ld_A_mHL ld_A_A add_A_B add_A_C add_A_D add_A_E
    add_A_H add_A_L add_A_mHL add_A_A adc_A_B adc_A_C adc_A_D adc_A_E adc_A_H adc_A_L adc_A_mHL adc_A_A sub_B sub_C
    sub_D sub_E sub_H sub_L sub_mHL sub_A sbc_A_B sbc_A_C sbc_A_D sbc_A_E sbc_A_H sbc_A_L sbc_A_mHL sbc_A_A and_B
    and_C and_D and_E and_H and_L and_mHL and_A xor_B xor_C xor_D xor_E xor_H xor_L xor_mHL xor_A or_B or_C or_D or_E
    or_H or_L or_mHL or_A cp_B cp_C cp_D cp_E cp_H cp_L cp_mHL cp_A ret_NZ pop_BC push_BC rst_00 ret_Z ret rst_08
    ret_NC pop_DE undefined_D3 push_DE rst_10 ret_C reti undefined_DB undefined_DD rst_18 pop_HL ldh_mC_A undefined_E3
    undefined_E4 push_HL rst_20 jp_HL undefined_EB undefined_EC undefined_ED rst_28 pop_AF ldh_A_mC di undefined_F4
    push_AF rst_30 ld_SP_HL ei undefined_FC undefined_FD rst_38 rlc_B rlc_C rlc_D rlc_E rlc_H rlc_L rlc_mHL rlc_A
    rrc_B rrc_C rrc_D rrc_E rrc_H rrc_L rrc_mHL rrc_A rl_B rl_C rl_D rl_E rl_H rl_L rl_mHL rl_A rr_B rr_C rr_D rr_E
    rr_H rr_L rr_mHL rr_A sla_B sla_C sla_D sla_E sla_H sla_L sla_mHL sla_A sra_B sra_C sra_D sra_E sra_H sra_L
    sra_mHL sra_A swap_B swap_C swap_D swap_E swap_H swap_L swap_mHL swap_A srl_B srl_C srl_D srl_E srl_H srl_L
    srl_mHL srl_A bit_0_B bit_0_C bit_0_D bit_0_E bit_0_H bit_0_L bit_0_mHL bit_0_A bit_1_B bit_1_C bit_1_D bit_1_E
    bit_1_H bit_1_L bit_1_mHL bit_1_A bit_2_B bit_2_C bit_2_D bit_2_E bit_2_H bit_2_L bit_2_mHL bit_2_A bit_3_B
    bit_3_C bit_3_D bit_3_E bit_3_H bit_3_L bit_3_mHL bit_3_A bit_4_B bit_4_C bit_4_D bit_4_E bit_4_H bit_4_L
    bit_4_mHL bit_4_A bit_5_B bit_5_C bit_5_D bit_5_E bit_5_H bit_5_L bit_5_mHL bit_5_A bit_6_B bit_6_C bit_6_D
    bit_6_E bit_6_H bit_6_L bit_6_mHL bit_6_A bit_7_B bit_7_C bit_7_D bit_7_E bit_7_H bit_7_L bit_7_mHL bit_7_A
    res_0_B res_0_C res_0_D res_0_E res_0_H res_0_L res_0_mHL res_0_A res_1_B res_1_C res_1_D res_1_E res_1_H res_1_L
    res_1_mHL res_1_A res_2_B res_2_C res_2_D res_2_E res_2_H res_2_L res_2_mHL res_2_A res_3_B res_3_C res_3_D
    res_3_E res_3_H res_3_L res_3_mHL res_3_A res_4_B res_4_C res_4_D res_4_E res_4_H res_4_L res_4_mHL res_4_A
    res_5_B res_5_C res_5_D res_5_E res_5_H res_5_L res_5_mHL res_5_A res_6_B res_6_C res_6_D res_6_E res_6_H res_6_L
    res_6_mHL res_6_A res_7_B res_7_C res_7_D res_7_E res_7_H res_7_L res_7_mHL res_7_A set_0_B set_0_C set_0_D
    set_0_E set_0_H set_0_L set_0_mHL set_0_A set_1_B set_1_C set_1_D set_1_E set_1_H set_1_L set_1_mHL set_1_A
    set_2_B set_2_C set_2_D set_2_E set_2_H set_2_L set_2_mHL set_2_A set_3_B set_3_C set_3_D set_3_E set_3_H set_3_L
    set_3_mHL set_3_A set_4_B set_4_C set_4_D set_4_E set_4_H set_4_L set_4_mHL set_4_A set_5_B set_5_C set_5_D
    set_5_E set_5_H set_5_L set_5_mHL set_5_A set_6_B set_6_C set_6_D set_6_E set_6_H set_6_L set_6_mHL set_6_A
    set_7_B set_7_C set_7_D set_7_E set_7_H set_7_L set_7_mHL set_7_A i

/-- The instruction that the decoder makes of an opcode byte and what was fetched after it. -/
def instrOfBytes (bytes : List Byte) : Instr := decodeBytes (bytes.getD 0 0#8) (bytes.getD 1 0#8) (bytes.getD 2 0#8)

theorem operandCount_le (op : Byte) : operandCount op ≤ 2 := by
  unfold operandCount
  split_ifs <;> omega

/-- Bytes that decode with nothing left over are an opcode byte and as many bytes after it as the opcode byte says. -/
theorem decode_eq_ok_nil {op : Byte} {tail : List Byte} {i : Instr} (h : decode (op :: tail) = .ok (i, [])) :
    operandCount op = tail.length ∧ instrOfBytes (op :: tail) = i := by
  have le := operandCount_le op
  simp only [decode] at h
  split at h
  case h_1 zero => cases h; exact ⟨zero, rfl⟩
  case h_2 one => cases h; exact ⟨one, rfl⟩
  case h_3 => cases h
  case h_4 not_zero not_one =>
    cases h
    have : operandCount op ≠ 0 := not_zero
    have : operandCount op ≠ 1 := not_one
    exact ⟨by simp only [List.length_cons, List.length_nil]; omega, rfl⟩
  case h_5 => cases h

theorem encode_eq_cons (i : Instr) : ∃ tail, encode i = i.opcode.1 :: tail := by
  unfold encode
  split <;> rename_i h <;> rw [h] <;> exact ⟨_, rfl⟩

/-- An encoding is its opcode byte and the operand bytes that the opcode byte asks for, and the decoder makes the
instruction of them. -/
theorem encode_spec (i : Instr) :
    (∃ tail, encode i = i.opcode.1 :: tail ∧ tail.length = operandCount i.opcode.1) ∧ instrOfBytes (encode i) = i := by
  obtain ⟨tail, cons⟩ := encode_eq_cons i
  have back := decode_encode i []
  rw [List.append_nil, cons] at back
  obtain ⟨count, instr⟩ := decode_eq_ok_nil back
  exact ⟨⟨tail, cons, count.symm⟩, by rw [cons, instr]⟩

/-- Only the first byte goes through the map of first bytes, and no byte is added or dropped. -/
theorem Params.standardBytes_cons (p : Params) (b : Byte) (tail : List Byte) :
    ∃ tail', p.standardBytes (b :: tail) = p.opcodeMap.firstByte b :: tail' ∧ tail'.length = tail.length := by
  match tail with
  | [] => exact ⟨_, rfl, rfl⟩
  | [_] => exact ⟨_, rfl, rfl⟩
  | _ :: _ :: _ => exact ⟨_, rfl, rfl⟩

theorem Params.opcode_of_standardBytes {p : Params} {b : Byte} {tail : List Byte} {i : Instr}
    (h : p.standardBytes (b :: tail) = encode i) :
    p.opcodeMap.firstByte b = i.opcode.1 ∧ tail.length = operandCount i.opcode.1 ∧ i.length = tail.length + 1 := by
  obtain ⟨tail', standard, sameLength⟩ := p.standardBytes_cons b tail
  obtain ⟨⟨operands, cons, count⟩, -⟩ := encode_spec i
  rw [standard, cons] at h
  injection h with first rest
  exact ⟨first, by rw [← count, ← rest, sameLength], by rw [Instr.length, cons, ← rest, List.length_cons, sameLength]⟩

/-- Bytes that stand for an instruction begin with an opcode byte. -/
theorem Params.exists_cons_of_standardBytes {p : Params} {bytes : List Byte} {i : Instr}
    (h : p.standardBytes bytes = encode i) : ∃ b tail, bytes = b :: tail := by
  obtain ⟨operands, cons⟩ := encode_eq_cons i
  cases bytes with
  | nil => rw [cons] at h; cases h
  | cons b tail => exact ⟨b, tail, rfl⟩

/-- The default arguments read the bytes as they are. -/
theorem Params.standardBytes_default {p : Params} (hm : p.opcodeMap = .standard) (ho : p.immOrder = .lowFirst)
    (bytes : List Byte) : p.standardBytes bytes = bytes := by
  match bytes with
  | [] => rfl
  | [_] => simp [standardBytes, OpcodeMap.firstByte, hm]
  | [_, _] => simp [standardBytes, OpcodeMap.firstByte, OpcodeMap.byteAfter, hm]
  | _ :: _ :: _ :: _ => simp [standardBytes, OpcodeMap.firstByte, ByteOrder.pair, hm, ho]

/-- No map gives the document's own byte values another meaning, or another byte theirs (R115, R119). -/
theorem OpcodeMap.firstByte_eq_iff (m : OpcodeMap) {b : Byte} (hb : b ∈ documentBytes) (x : Byte) :
    m.firstByte x = b ↔ x = b := by
  cases m with
  | standard => rfl
  | given first second =>
    simp only [firstByte]
    split_ifs with kept
    · rfl
    · simp only [Bool.or_eq_true, List.contains_iff_mem, not_or] at kept
      obtain ⟨from_other, to_other⟩ := kept
      exact iff_of_false (fun e => to_other (e ▸ hb)) (fun e => from_other (e ▸ hb))

end Sys2Proof
end

section
/-! SUPPORT. A step up to its instruction: fetching bytes one after the other (20_memory.md R91, 30_encoding.md R101), the
instruction made of them, and what the step does with it (60_exceptions.md R358). -/
namespace Sys2Proof.Machine

namespace State

/-- `Fetch8` that many times, in ascending address order. -/
def fetchBytes : Nat → State → Result (List Byte × State)
  | 0, s => .next ([], s)
  | n + 1, s => s.fetch8.andThen fun p => (fetchBytes n p.2).andThen fun q => .next (p.1 :: q.1, q.2)

/-- Fetching an instruction is fetching its opcode byte and the operand bytes that it asks for, and decoding them in the
standard map and order. -/
theorem fetchInstr_eq (s : State) :
    s.fetchInstr = s.fetchOpcode.andThen fun p =>
      (fetchBytes (s.operandBytes (s.params.opcodeMap.firstByte p.1)) p.2).andThen fun q =>
      .next (instrOfBytes (s.params.standardBytes (p.1 :: q.1)), q.2) := by
  unfold fetchInstr
  congr 1
  funext p
  have le : s.operandBytes (s.params.opcodeMap.firstByte p.1) ≤ 2 := by
    unfold operandBytes
    split_ifs
    · omega
    · exact operandCount_le _
  dsimp only
  generalize s.operandBytes (s.params.opcodeMap.firstByte p.1) = n at le
  obtain rfl | rfl | rfl : n = 0 ∨ n = 1 ∨ n = 2 := by omega
  · rfl
  · simp only [fetchBytes, Result.andThen_assoc, Result.andThen_next]; rfl
  · simp only [fetchBytes, Result.andThen_assoc, Result.andThen_next]; rfl

theorem setPc_setPc (s : State) (v w : Word) : (s.setPc v).setPc w = s.setPc w := rfl

theorem fetch8_setPc {t : State} {a : Word} (h : t.canRead a = true) :
    (t.setPc a).fetch8 = .next (t.busRead a, (t.afterRead a).setPc (a + 1#16)) := by
  simp [fetch8, h, afterRead_setPc, setPc_setPc]

theorem fetch8_setPc_refused {t : State} {a : Word} (h : t.canRead a = false) :
    (t.setPc a).fetch8 = .fault (.addressingError a) := by
  simp [fetch8, h]

theorem add_ofNat_succ (a : Word) (n : Nat) : a + BitVec.ofNat 16 (n + 1) = a + 1#16 + BitVec.ofNat 16 n := by
  rw [BitVec.add_assoc, Nat.add_comm n 1, BitVec.ofNat_add]

/-- Bytes that reads from `a` on give are fetched from there, and the pc ends past them. -/
theorem fetchBytes_of_holdsAt {t : State} {a : Word} {bytes : List Byte} (h : t.holdsAt a bytes) :
    fetchBytes bytes.length (t.setPc a) =
      .next (bytes, (t.afterReads (addressesFrom a bytes.length)).setPc (a + BitVec.ofNat 16 bytes.length)) := by
  induction bytes generalizing t a with
  | nil => simp [fetchBytes, addressesFrom, afterReads]
  | cons b rest ih =>
    obtain ⟨can, rfl, holds⟩ := h
    rw [List.length_cons, add_ofNat_succ]
    simp only [fetchBytes, fetch8_setPc can, Result.andThen_next, ih holds]
    rfl

/-- Where some of the bytes are read and the next one is refused, fetching more of them is the fault at its address. -/
theorem fetchBytes_of_refused {t : State} {a : Word} {read : List Byte} {n : Nat} (h : t.holdsAt a read)
    (more : read.length < n)
    (refused : (t.afterReads (addressesFrom a read.length)).canRead (a + BitVec.ofNat 16 read.length) = false) :
    fetchBytes n (t.setPc a) = .fault (.addressingError (a + BitVec.ofNat 16 read.length)) := by
  induction read generalizing t a n with
  | nil =>
    obtain ⟨n, rfl⟩ := Nat.exists_eq_add_of_lt more
    have refused : t.canRead a = false := by simpa [addressesFrom, afterReads] using refused
    simp [fetchBytes, fetch8_setPc_refused refused]
  | cons b rest ih =>
    obtain ⟨can, rfl, holds⟩ := h
    obtain ⟨n, rfl⟩ := Nat.exists_eq_succ_of_ne_zero (Nat.ne_zero_of_lt more)
    rw [List.length_cons, add_ofNat_succ] at refused ⊢
    simp only [fetchBytes, fetch8_setPc can, Result.andThen_next, ih holds (Nat.lt_of_succ_lt_succ more) refused,
      Result.andThen_fault]

/-- Operand bytes are left out for opcode 0x10 alone, and not under `nop2` (46_cpu_control.md R332). -/
theorem operandBytes_eq {s : State} {op : Byte} (h : op = 0x10#8 → s.params.stopBehaviour = .nop2) :
    s.operandBytes op = operandCount op := if_neg fun stops => stops.2 (h stops.1)

section fetched

variable {s t : State} {a : Word} {b : Byte} {tail : List Byte} {i : Instr} (opcode : s.fetchOpcode = .next (b, t.setPc a))
  (standard : s.params.standardBytes (b :: tail) = encode i)
  (stop : i.opcode.1 = 0x10#8 → s.params.stopBehaviour = .nop2)

include opcode standard stop

/-- Fetching the instruction whose opcode byte was fetched and whose other bytes stand from the pc on. -/
theorem fetchInstr_of_holdsAt (holds : t.holdsAt a tail) :
    s.fetchInstr =
      .next (i, (t.afterReads (addressesFrom a tail.length)).setPc (a + BitVec.ofNat 16 tail.length)) := by
  obtain ⟨first, count, -⟩ := Params.opcode_of_standardBytes standard
  simp only [fetchInstr_eq, opcode, Result.andThen_next, first, operandBytes_eq stop, ← count, fetchBytes_of_holdsAt holds,
    standard, (encode_spec i).2]

/-- Fetching it where one of the other bytes is refused. -/
theorem fetchInstr_of_refused {k : Nat} (more : k < tail.length) (holds : t.holdsAt a (tail.take k))
    (refused : (t.afterReads (addressesFrom a k)).canRead (a + BitVec.ofNat 16 k) = false) :
    s.fetchInstr = .fault (.addressingError (a + BitVec.ofNat 16 k)) := by
  obtain ⟨first, count, -⟩ := Params.opcode_of_standardBytes standard
  have taken : (tail.take k).length = k := List.length_take_of_le more.le
  have fault := fetchBytes_of_refused (n := tail.length) holds (by rwa [taken]) (by rwa [taken])
  rw [taken] at fault
  simp only [fetchInstr_eq, opcode, Result.andThen_next, first, operandBytes_eq stop, ← count, fault, Result.andThen_fault]

end fetched

/-- Opcode 0x10 under the other two values of STOP_BEHAVIOUR: nothing is fetched after it (D8). -/
theorem fetchInstr_of_stop {s t : State} {b : Byte} (opcode : s.fetchOpcode = .next (b, t))
    (first : s.params.opcodeMap.firstByte b = 0x10#8) (stops : s.params.stopBehaviour ≠ .nop2) :
    s.fetchInstr = .next (.stop 0x00#8, t) := by
  have none : s.operandBytes 0x10#8 = 0 := if_pos ⟨rfl, stops⟩
  simp only [fetchInstr, opcode, Result.andThen_next, first, none]
  rfl

theorem fetchOpcode_of_hq_none {s : State} (empty : s.hq = none) : s.fetchOpcode = s.fetch8 := by rw [fetchOpcode, empty]

/-- With an empty queue the opcode byte is the one at the pc. -/
theorem fetchOpcode_at_pc {s : State} (empty : s.hq = none) (can : s.canRead s.pc = true) :
    s.fetchOpcode = .next (s.busRead s.pc, (s.afterRead s.pc).setPc (s.pc + 1#16)) :=
  (fetchOpcode_of_hq_none empty).trans (fetch8_setPc can)

theorem fetchOpcode_refused {s : State} (empty : s.hq = none) (refused : s.canRead s.pc = false) :
    s.fetchOpcode = .fault (.addressingError s.pc) :=
  (fetchOpcode_of_hq_none empty).trans (fetch8_setPc_refused refused)

/-- A running CPU's step from the instruction fetched: `exec`, the interrupt check, the delayed enable and the ticks. -/
theorem step_of_fetchInstr {s u : State} {i : Instr} (runs : s.halted = false) (fetched : s.fetchInstr = .next (i, u)) :
    step s =
      Result.andThen (exec i u) fun t =>
      Result.andThen t.interruptCheck fun p =>
      .next (advance (cycles s.params.cycleTable i (taken i u.flags) + p.1) (settleIme s.imePending p.2)) := by
  simp only [step, machineStep, cpuStep, executeOne, finishCpuStep, runs, fetched, Result.andThen_next, Result.andThen_assoc,
    Bool.false_eq_true, if_false]

theorem step_of_fetchInstr_fault {s : State} {e : Fault} (runs : s.halted = false) (fetched : s.fetchInstr = .fault e) :
    step s = .fault e := by
  simp [step, machineStep, cpuStep, executeOne, runs, fetched]

/-- The step on opcode 0x10 under `refuse` and under `fault`. -/
theorem step_of_stop {s t : State} {b : Byte} (runs : s.halted = false) (opcode : s.fetchOpcode = .next (b, t))
    (params : t.params = s.params) (first : s.params.opcodeMap.firstByte b = 0x10#8) :
    (s.params.stopBehaviour = .refuse → step s = .refused .stop) ∧
    (s.params.stopBehaviour = .fault → step s = .fault (.undefinedOpcode 0x10#8)) := by
  have exec_stop : exec (.stop 0x00#8) t = stop t := rfl
  constructor <;> intro behaviour <;>
    simp [step_of_fetchInstr runs (fetchInstr_of_stop opcode first (by simp [behaviour])), exec_stop, stop, params, behaviour]

end State

/-- Settles O6: the opcode byte is fetched at the pc, its operand bytes after it, and the step runs what they decode to; a
refused byte stops it there. -/
theorem stepRunsDecoded : Obligations.StepRunsDecoded := by
  unfold Obligations.StepRunsDecoded
  refine ⟨fun s i bytes runs empty standard holds stop => ?_, fun s i bytes k runs empty standard more holds refused stop => ?_,
    fun s b runs empty first holds => ?_, fun p bytes hm ho => p.standardBytes_default hm ho bytes,
    fun p op b1 b2 _ hm ho => ?_, fun p b hb x => p.opcodeMap.firstByte_eq_iff hb x⟩
  · obtain ⟨b, tail, rfl⟩ := Params.exists_cons_of_standardBytes standard
    obtain ⟨-, -, length⟩ := Params.opcode_of_standardBytes standard
    obtain ⟨can, rfl, holds⟩ := holds
    have opcode := State.fetchOpcode_at_pc empty can
    rw [State.step_of_fetchInstr runs (State.fetchInstr_of_holdsAt opcode standard stop holds), length,
      State.add_ofNat_succ s.pc tail.length]
    simp only [State.setPc_flags, State.afterReads_flags, State.afterRead_flags]
    rfl
  · obtain ⟨b, tail, rfl⟩ := Params.exists_cons_of_standardBytes standard
    obtain ⟨-, -, length⟩ := Params.opcode_of_standardBytes standard
    cases k with
    | zero =>
      rw [BitVec.add_zero] at refused ⊢
      refine State.step_of_fetchInstr_fault runs ?_
      rw [State.fetchInstr_eq, State.fetchOpcode_refused empty refused, Result.andThen_fault]
    | succ k =>
      obtain ⟨can, rfl, holds⟩ := holds
      have opcode := State.fetchOpcode_at_pc empty can
      rw [State.add_ofNat_succ] at refused ⊢
      exact State.step_of_fetchInstr_fault runs
        (State.fetchInstr_of_refused opcode standard (fun ten => stop ten k.succ_ne_zero) (by omega) holds refused)
  · obtain ⟨can, rfl, -⟩ := holds
    have opcode := State.fetchOpcode_at_pc empty can
    exact State.step_of_stop runs opcode (by simp) first
  · simp [Params.standardBytes, OpcodeMap.firstByte, ByteOrder.pair, hm, ho]

end Sys2Proof.Machine
end

section
/-! SUPPORT. Decoding is total (30_encoding.md R118): an opcode byte with its operand bytes after it decodes, and to an
undefined value for the eleven opcode bytes of R115 alone; and a step that fetches one of those faults. -/
namespace Sys2Proof

/-- The eleven byte values that have no instruction, each with its term (R115). -/
def undefinedOpcodes : List (Instr × Byte) :=
  [(.undefined_D3, 0xD3#8), (.undefined_DB, 0xDB#8), (.undefined_DD, 0xDD#8), (.undefined_E3, 0xE3#8),
   (.undefined_E4, 0xE4#8), (.undefined_EB, 0xEB#8), (.undefined_EC, 0xEC#8), (.undefined_ED, 0xED#8),
   (.undefined_F4, 0xF4#8), (.undefined_FC, 0xFC#8), (.undefined_FD, 0xFD#8)]

/-- An opcode byte and the operand bytes that it asks for decode, whatever follows them. -/
theorem decode_eq_ok {op : Byte} {rest : List Byte} (enough : operandCount op ≤ rest.length) :
    decode (op :: rest) =
      .ok (instrOfBytes (op :: rest.take (operandCount op)), rest.drop (operandCount op)) := by
  have le := operandCount_le op
  simp only [decode]
  generalize operandCount op = n at le enough
  match n, rest with
  | 0, _ => rfl
  | 1, _ :: _ => rfl
  | 2, _ :: _ :: _ => rfl

/-- Three bytes are enough for every opcode byte. -/
theorem decode_eq_ok_of_length {op : Byte} {rest : List Byte} (two : 2 ≤ rest.length) :
    decode (op :: rest) =
      .ok (instrOfBytes (op :: rest.take (operandCount op)), rest.drop (operandCount op)) :=
  decode_eq_ok ((operandCount_le op).trans two)

/-! No immediate, and no byte after 0xCB, makes an instruction undefined. -/

theorem Instr.wellFormed_ld8Imm (k : Operand8) (v : Byte) : (Instr.ld8Imm k v).wellFormed = true := by cases k <;> rfl
theorem Instr.wellFormed_ld16Imm (k : Reg16) (w : Word) : (Instr.ld16Imm k w).wellFormed = true := by cases k <;> rfl
theorem Instr.wellFormed_aluImm (k : AluOp) (v : Byte) : (Instr.aluImm k v).wellFormed = true := by cases k <;> rfl
theorem Instr.wellFormed_jpCond (k : Cond) (a : Word) : (Instr.jpCond k a).wellFormed = true := by cases k <;> rfl
theorem Instr.wellFormed_jrCond (k : Cond) (e : Byte) : (Instr.jrCond k e).wellFormed = true := by cases k <;> rfl
theorem Instr.wellFormed_callCond (k : Cond) (a : Word) : (Instr.callCond k a).wellFormed = true := by cases k <;> rfl

/-- Every byte after 0xCB is an instruction (R114). -/
theorem wellFormed_decodeCB : ∀ op2 : Byte, (decodeCB op2).wellFormed = true := by decide

/-- For x = 0 (R112): a form with an immediate is an instruction whatever its value. -/
theorem wellFormed_decodeX0 (y z p q : Nat) (b1 b2 : Byte) :
    (decodeX0 y z p q b1 b2).wellFormed = (decodeX0 y z p q 0x00#8 0x00#8).wellFormed := by
  unfold decodeX0
  split
  case h_1 =>
    split
    case h_5 => simp only [Instr.wellFormed_jrCond]
    all_goals rfl
  case h_2 => split <;> [simp only [Instr.wellFormed_ld16Imm]; rfl]
  case h_7 => simp only [Instr.wellFormed_ld8Imm]
  all_goals rfl

/-- For x = 3 (R112), where 0xCB takes the byte after it as an opcode byte. -/
theorem wellFormed_decodeX3 (y z p q : Nat) (b1 b2 : Byte) :
    (decodeX3 y z p q b1 b2).wellFormed = (decodeX3 y z p q 0x00#8 0x00#8).wellFormed := by
  unfold decodeX3
  split
  case h_1 => split <;> rfl
  case h_3 =>
    split
    case h_5 => simp only [Instr.wellFormed_jpCond]
    all_goals rfl
  case h_4 =>
    split
    case h_2 => simp only [wellFormed_decodeCB]
    all_goals rfl
  case h_5 =>
    split
    case h_5 => simp only [Instr.wellFormed_callCond]
    all_goals rfl
  case h_6 =>
    split
    · rfl
    · split <;> rfl
  case h_7 => simp only [Instr.wellFormed_aluImm]
  all_goals rfl

/-- Whether there is an instruction is for the opcode byte alone to say, and not for its operand bytes. -/
theorem wellFormed_decodeBytes (op b1 b2 : Byte) :
    (decodeBytes op b1 b2).wellFormed = (decodeBytes op 0x00#8 0x00#8).wellFormed := by
  unfold decodeBytes
  split
  case h_1 => exact wellFormed_decodeX0 ..
  case h_4 => exact wellFormed_decodeX3 ..
  all_goals rfl

/-- The opcode bytes that have no instruction are the eleven of R115. -/
theorem wellFormed_decodeBytes_eq_false_iff (op b1 b2 : Byte) :
    (decodeBytes op b1 b2).wellFormed = false ↔ op ∈ undefinedOpcodes.map Prod.snd := by
  rw [wellFormed_decodeBytes]
  revert op
  decide

/-- Settles O4: two bytes are as many as any opcode byte asks for, and of the instruction that they make the opcode byte
alone decides whether it is defined. -/
theorem decodeIsTotal : Obligations.DecodeIsTotal := by
  unfold Obligations.DecodeIsTotal
  refine ⟨fun op b1 b2 rest => ?_, fun bytes e refused => ?_⟩
  · exact ⟨_, decode_eq_ok_of_length (by simp), wellFormed_decodeBytes_eq_false_iff op _ _⟩
  · by_contra long
    match bytes with
    | [] => simp at long
    | op :: rest =>
      rw [decode_eq_ok_of_length (by rw [List.length_cons] at long; omega)] at refused
      cases refused

/-- The encoding of an undefined term is its byte, and no map gives the byte another meaning (R115; 00_scope.md R6). -/
theorem encode_undefinedOpcodes :
    ∀ p ∈ undefinedOpcodes, encode p.1 = [p.2] ∧ p.2 ∈ documentBytes := by
  decide

namespace Machine

/-- An undefined byte value has no execution but the fault that names it (R115). -/
theorem exec_undefinedOpcodes : ∀ p ∈ undefinedOpcodes, ∀ s, exec p.1 s = .fault (.undefinedOpcode p.2) := by
  intro p listed s
  fin_cases listed <;> rfl

/-- The step of a running CPU faults where the byte at the pc is one whose meaning the document gives, and is the whole of an
instruction whose execution faults. -/
theorem State.step_of_documentByte {s : State} {i : Instr} {e : Fault} (alone : encode i = [s.busRead s.pc])
    (document : s.busRead s.pc ∈ documentBytes) (faults : ∀ t, exec i t = .fault e) (runs : s.halted = false)
    (empty : s.hq = none) (can : s.canRead s.pc = true) : step s = .fault e := by
  have kept := (s.params.opcodeMap.firstByte_eq_iff document _).mpr rfl
  have standard : s.params.standardBytes [s.busRead s.pc] = encode i := by rw [alone, Params.standardBytes, kept]
  have opcode : i.opcode.1 = s.busRead s.pc := (Params.opcode_of_standardBytes standard).1.symm.trans kept
  have not_stop : i.opcode.1 ≠ 0x10#8 := fun ten => absurd (ten ▸ opcode ▸ document) (by decide : 0x10#8 ∉ documentBytes)
  rw [step_of_fetchInstr runs (fetchInstr_of_holdsAt (fetchOpcode_at_pc empty can) standard (absurd · not_stop) trivial),
    faults, Result.andThen_fault]

/-- Settles O5: the byte is the term's whole encoding and its meaning in every map, so the step fetches the term, whose
execution faults. -/
theorem undefinedOpcodesFault : Obligations.UndefinedOpcodesFault := by
  unfold Obligations.UndefinedOpcodesFault
  intro s p listed
  have listed : p ∈ undefinedOpcodes := listed
  obtain ⟨alone, document⟩ := encode_undefinedOpcodes p listed
  have faults := exec_undefinedOpcodes p listed
  refine ⟨?_, faults s, fun runs empty can byte => ?_⟩
  · simpa [alone] using decode_encode p.1 []
  · rw [← byte] at alone document faults ⊢
    exact State.step_of_documentByte alone document faults runs empty can

end Machine
end Sys2Proof
end

section
/-! SUPPORT. The 8-bit loads (40_load8.md) by their operands: between two registers, between a register and the byte at `HL`,
and between `A` and an address. -/
namespace Sys2Proof

theorem Reg8.op_ne_mHL (r : Reg8) : r.op ≠ .mHL := by cases r <;> decide

namespace Machine

section loads

variable (s : State)

/-! Loads to and from a register; HALT takes the place of LD (HL),(HL), the one case that is not such a load. -/

theorem exec_ld8_reg_reg (k r : Reg8) : exec (.ld8 k.op r.op) s = .next (s.setR8 k (s.getR8 r)) := by
  rw [exec_ld8 s k.op r.op fun h => k.op_ne_mHL h.1, ld8, State.readOp8_reg, Result.andThen_next, State.writeOp8_reg]

/-- A load from `(HL)` is the bus read at the old `HL`, and then the register write (R143). -/
theorem exec_ld8_reg_mHL (r : Reg8) :
    exec (.ld8 r.op .mHL) s = (s.memRead s.hl).andThen fun p => .next (p.2.setR8 r p.1) := by
  rw [exec_ld8 s r.op .mHL fun h => r.op_ne_mHL h.1, ld8]
  simp only [State.writeOp8_reg]
  rfl

theorem exec_ld8_mHL_reg (r : Reg8) : exec (.ld8 .mHL r.op) s = s.memWrite s.hl (s.getR8 r) := by
  rw [exec_ld8 s .mHL r.op fun h => r.op_ne_mHL h.2, ld8, State.readOp8_reg]
  rfl

theorem exec_ld8Imm_reg (r : Reg8) (v : Byte) : exec (.ld8Imm r.op v) s = .next (s.setR8 r v) := by
  rw [exec_ld8Imm, State.writeOp8_reg]

theorem exec_ld8Imm_mHL (v : Byte) : exec (.ld8Imm .mHL v) s = s.memWrite s.hl v := exec_ld8Imm s .mHL v

end loads

/-- Settles O15: source and destination are registers, and a register given its own value leaves the state as it is. -/
theorem loadRegister : Obligations.LoadRegister := by
  unfold Obligations.LoadRegister
  intro s k r v
  exact ⟨exec_ld8_reg_reg s k r, exec_ld8Imm_reg s k v, by rw [exec_ld8_reg_reg, State.setR8_getR8]⟩

/-- Settles O16: each form is one bus access at `HL`, made before the register write. -/
theorem loadAndStoreAtHL : Obligations.LoadAndStoreAtHL := by
  unfold Obligations.LoadAndStoreAtHL
  intro s r v
  rw [exec_ld8_reg_mHL, exec_ld8_mHL_reg, exec_ld8Imm_mHL]
  refine ⟨fun can => ?_, fun refused => ?_, s.memWrite_of_canWrite, s.memWrite_of_refused, s.memWrite_of_canWrite,
    s.memWrite_of_refused⟩
  · rw [s.memRead_of_canRead can, Result.andThen_next]
  · rw [s.memRead_of_refused refused, Result.andThen_fault]

namespace State

variable (s : State)

theorem loadA_of_canRead {a : Word} (can : s.canRead a = true) :
    s.loadA a = .next ((s.afterRead a).setR8 .a (s.busRead a)) := by
  rw [loadA, s.memRead_of_canRead can, Result.andThen_next]

theorem loadA_of_refused {a : Word} (refused : s.canRead a = false) :
    s.loadA a = .fault (.addressingError a) := by
  rw [loadA, s.memRead_of_refused refused, Result.andThen_fault]

theorem storeA_of_canWrite {a : Word} (can : s.canWrite a s.regs.a = true) :
    s.storeA a = .next (s.busWrite a s.regs.a) := s.memWrite_of_canWrite can

theorem storeA_of_refused {a : Word} (refused : s.canWrite a s.regs.a = false) :
    s.storeA a = .fault (.addressingError a) := s.memWrite_of_refused refused

end State

/-- Settles O17: in each row the two instructions are the load and the store of `A` at the row's address. -/
theorem loadAndStoreAccumulator : Obligations.LoadAndStoreAccumulator := by
  unfold Obligations.LoadAndStoreAccumulator
  intro s a n p listed
  have forms : exec p.1 s = s.loadA p.2.2 ∧ exec p.2.1 s = s.storeA p.2.2 := by
    fin_cases listed <;> exact ⟨rfl, rfl⟩
  obtain ⟨load, store⟩ := forms
  rw [load, store]
  exact ⟨s.loadA_of_canRead, s.loadA_of_refused, s.storeA_of_canWrite, s.storeA_of_refused⟩

end Machine
end Sys2Proof
end

section
/-! SUPPORT. The 8-bit arithmetic (42_alu8.md): the sums of R201 and R212 over natural numbers, what the three source forms of
an accumulator operation do, and what an operation that writes its operand back does. -/
namespace Sys2Proof.Machine

theorem lowNibble_eq_mod (v : Byte) : lowNibble v = v.toNat % 16 := by
  rw [lowNibble, BitVec.toNat_and]
  exact Nat.and_two_pow_sub_one_eq_mod v.toNat 4

theorem ofNat_beq_zero (n : Nat) : (BitVec.ofNat 8 n == 0#8) = decide (n % 256 = 0) := by
  rw [beq_eq_decide]
  exact decide_eq_decide.mpr BitVec.toNat_inj.symm

/-- `Add8` (R201) with its result and its flags read off the sum of natural numbers. -/
theorem add8_eq (a v : Byte) (cin : Bool) :
    add8 a v cin =
      { res := BitVec.ofNat 8 ((a.toNat + v.toNat + bitNat cin) % 256)
        flags :=
          { z := decide ((a.toNat + v.toNat + bitNat cin) % 256 = 0)
            n := false
            h := decide (a.toNat % 16 + v.toNat % 16 + bitNat cin > 0x0F)
            c := decide (a.toNat + v.toNat + bitNat cin > 0xFF) } } := by
  have wraps (n : Nat) : BitVec.ofNat 8 (n % 256) = BitVec.ofNat 8 n := BitVec.eq_of_toNat_eq (Nat.mod_mod n 256)
  simp only [add8, lowNibble_eq_mod, ofNat_beq_zero, wraps]

/-- INC of a byte (R212): adding one gives zero where the byte was 0xFF, and carries out of bit 3 where the low nibble was
0xF. -/
theorem incOut_eq (v : Byte) (f : Flags) :
    incOut v f =
      { res := v + 1#8, flags := { z := v == 0xFF#8, n := false, h := decide (v.toNat % 16 = 0xF), c := f.c } } := by
  have res : BitVec.ofNat 8 ((v.toNat + 1) % 256) = v + 1#8 := by bv_omega
  have zero : (v.toNat + 1) % 256 = 0 ↔ v = 0xFF#8 := by bv_omega
  have half : v.toNat % 16 + 1 > 0x0F ↔ v.toNat % 16 = 0xF := by omega
  simp [incOut, add8_eq, bitNat, res, zero, half, beq_eq_decide]

/-! The accumulator operations. -/

section accumulator

variable (s : State) (op : AluOp)

theorem exec_aluOf_reg (r : Reg8) : exec (.aluOf op r.op) s = .next (accumulate op (s.getR8 r) s) := by
  rw [exec_aluOf, alu, State.readOp8_reg, Result.andThen_next]

/-- From `(HL)` the operation is the bus read at `HL`, and then the accumulator write. -/
theorem exec_aluOf_mHL_of_canRead (can : s.canRead s.hl = true) :
    exec (.aluOf op .mHL) s = .next (accumulate op (s.busRead s.hl) (s.afterRead s.hl)) := by
  rw [exec_aluOf, alu, State.readOp8, s.memRead_of_canRead can, Result.andThen_next]

theorem exec_aluOf_mHL_of_refused (refused : s.canRead s.hl = false) :
    exec (.aluOf op .mHL) s = .fault (.addressingError s.hl) := by
  rw [exec_aluOf, alu, State.readOp8, s.memRead_of_refused refused, Result.andThen_fault]

/-- The three source forms with one source byte: what the accumulator operation does to every state with these registers and
flags, each form does, and the `(HL)` form does it after its read. -/
theorem exec_alu_sources (v : Byte) {result : State → State → Prop}
    (accumulates : ∀ u : State, u.regs = s.regs → u.flags = s.flags → result u (accumulate op v u)) :
    (∃ t, exec (.aluImm op v) s = .next t ∧ result s t) ∧
    (∀ r, s.getR8 r = v → ∃ t, exec (.aluOf op r.op) s = .next t ∧ result s t) ∧
    (s.canRead s.hl = true → s.busRead s.hl = v →
      ∃ t, exec (.aluOf op .mHL) s = .next t ∧ result (s.afterRead s.hl) t) ∧
    (s.canRead s.hl = false → exec (.aluOf op .mHL) s = .fault (.addressingError s.hl)) := by
  refine ⟨⟨_, exec_aluImm s op v, accumulates s rfl rfl⟩, fun r source => ⟨_, exec_aluOf_reg s op r, ?_⟩,
    fun can source => ⟨_, exec_aluOf_mHL_of_canRead s op can, ?_⟩, exec_aluOf_mHL_of_refused s op⟩
  · exact source ▸ accumulates s rfl rfl
  · exact source ▸ accumulates _ (s.afterRead_regs _) (s.afterRead_flags _)

end accumulator

/-- Settles O22: ADD and ADC are `Add8` with the carry clear and with the old carry, from each of the three sources. -/
theorem addWithAndWithoutCarry : Obligations.AddWithAndWithoutCarry := by
  unfold Obligations.AddWithAndWithoutCarry
  intro s v sum p listed
  obtain ⟨cin, adds, carry⟩ : ∃ cin, aluOut p.1 s.regs.a v s.flags.c = add8 s.regs.a v cin ∧ p.2 = bitNat cin := by
    fin_cases listed
    exacts [⟨false, rfl, rfl⟩, ⟨s.flags.c, rfl, rfl⟩]
  refine exec_alu_sources s p.1 v fun u regs flags => ?_
  simp only [sum, carry, accumulate, State.setR8, State.setFlags, regs, flags, adds, add8_eq]

namespace State

variable (s : State) (f : Byte → Flags → AluOut)

/-! An operand read, changed and written back. -/

theorem modify_reg (r : Reg8) :
    s.modify r.op f =
      .next ((s.setR8 r (f (s.getR8 r) s.flags).res).setFlags (f (s.getR8 r) s.flags).flags) := by
  simp only [modify, readOp8_reg, writeOp8_reg, Result.andThen_next]

/-- At `(HL)`, where the read answers, it is the write and then the flags: the read leaves `HL` alone. -/
theorem modify_mHL_of_canRead (can : s.canRead s.hl = true) :
    s.modify .mHL f =
      ((s.afterRead s.hl).memWrite s.hl (f (s.busRead s.hl) s.flags).res).andThen fun t =>
        .next (t.setFlags (f (s.busRead s.hl) s.flags).flags) := by
  simp only [modify, readOp8, writeOp8, memRead_of_canRead s can, Result.andThen_next, afterRead_hl]

theorem modify_mHL_of_canWrite (can : s.canRead s.hl = true)
    (stores : (s.afterRead s.hl).canWrite s.hl (f (s.busRead s.hl) s.flags).res = true) :
    s.modify .mHL f =
      .next (((s.afterRead s.hl).busWrite s.hl (f (s.busRead s.hl) s.flags).res).setFlags
        (f (s.busRead s.hl) s.flags).flags) := by
  rw [modify_mHL_of_canRead s f can, memWrite_of_canWrite _ stores, Result.andThen_next]

/-- A refused read, and a refused write after a read that answers, are the same fault. -/
theorem modify_mHL_of_refused (refused : s.canRead s.hl = false ∨
      (s.afterRead s.hl).canWrite s.hl (f (s.busRead s.hl) s.flags).res = false) :
    s.modify .mHL f = .fault (.addressingError s.hl) := by
  cases can : s.canRead s.hl with
  | false => simp only [modify, readOp8, memRead_of_refused s can, Result.andThen_fault]
  | true =>
    have stores := refused.resolve_left (by simp [can])
    rw [modify_mHL_of_canRead s f can, memWrite_of_refused _ stores, Result.andThen_fault]

end State

/-- Settles O25: INC writes its operand back one more, with the flags of `incOut_eq`. -/
theorem incrementByte : Obligations.IncrementByte := by
  unfold Obligations.IncrementByte
  intro s flags
  have out (v : Byte) : incOut v s.flags = { res := v + 1#8, flags := flags v } := incOut_eq v s.flags
  refine ⟨fun r => ?_, fun can stores => ?_, fun refused => ?_⟩
  · rw [exec_inc8, s.modify_reg, out]
  · rw [exec_inc8, s.modify_mHL_of_canWrite incOut can (by rwa [out]), out]
  · rw [exec_inc8, s.modify_mHL_of_refused incOut (by rwa [out])]

end Sys2Proof.Machine
end

section
/-! SUPPORT. The 16-bit arithmetic (43_alu16.md): sign extension as integer arithmetic, a mask of one bit read as that bit,
and what the two instructions that use `SpAdd` do. -/
namespace Sys2Proof.Machine

theorem sext16_eq_ofInt (e : Byte) : sext16 e = BitVec.ofInt 16 e.toInt := rfl

theorem and_twoPow_bne_zero {w : Nat} (x : BitVec w) (i : Nat) : ((x &&& BitVec.twoPow w i) != 0#w) = x.getLsbD i := by
  rw [BitVec.and_twoPow]
  cases bit : x.getLsbD i with
  | false => simp
  | true =>
    have mask : (BitVec.twoPow w i).getLsbD i = true := by simp [BitVec.lt_of_getLsbD bit]
    have nonzero : BitVec.twoPow w i ≠ 0#w := fun zero => by simp [zero] at mask
    simpa using nonzero

/-- The flags of `SpAdd` (R246): the masks 0x0010 and 0x0100 are bits 4 and 8. -/
theorem spAddFlags_eq (sp : Word) (e : Byte) :
    spAddFlags sp e =
      { z := false
        n := false
        h := (sp ^^^ sext16 e ^^^ spAdd sp e).getLsbD 4
        c := (sp ^^^ sext16 e ^^^ spAdd sp e).getLsbD 8 } :=
  congrArg₂ (Flags.mk false false) (and_twoPow_bne_zero _ 4) (and_twoPow_bne_zero _ 8)

theorem exec_add_SP_e8_eq (s : State) (e : Byte) :
    exec (.add_SP_e8 e) s = .next ((s.setSp (spAdd s.sp e)).setFlags (spAddFlags s.sp e)) := rfl

theorem exec_ld_HL_SPe8_eq (s : State) (e : Byte) :
    exec (.ld_HL_SPe8 e) s = .next ((s.setHL (spAdd s.sp e)).setFlags (spAddFlags s.sp e)) := rfl

/-- Settles O29: both instructions take the sum and the flags of `SpAdd`, and its sign extension is the byte's signed value
modulo 65536. -/
theorem addSignedToSP : Obligations.AddSignedToSP := by
  unfold Obligations.AddSignedToSP
  intro s e
  rw [exec_add_SP_e8_eq, exec_ld_HL_SPe8_eq, spAddFlags_eq, spAdd, sext16_eq_ofInt]
  exact ⟨rfl, rfl⟩

end Sys2Proof.Machine
end

section
/-! SUPPORT. The bit instructions (44_rotate_shift_bit.md): what BIT does with a register and with the byte at `HL`, and that
writing back the flags a state has changes nothing. -/
namespace Sys2Proof.Machine

theorem State.setFlags_of_flags_eq {s : State} {f : Flags} (same : s.flags = f) : s.setFlags f = s := same ▸ rfl

section bitTest

variable (s : State) (b : BitNum)

theorem exec_bitOf_reg (r : Reg8) : exec (.bitOf b r.op) s = .next (s.setFlags (bitFlags b (s.getR8 r) s.flags)) := by
  rw [exec_bitOf, bitTest, State.readOp8_reg, Result.andThen_next]

theorem exec_bitOf_mHL_of_canRead (can : s.canRead s.hl = true) :
    exec (.bitOf b .mHL) s = .next ((s.afterRead s.hl).setFlags (bitFlags b (s.busRead s.hl) s.flags)) := by
  rw [exec_bitOf, bitTest, State.readOp8, s.memRead_of_canRead can, Result.andThen_next]

theorem exec_bitOf_mHL_of_refused (refused : s.canRead s.hl = false) :
    exec (.bitOf b .mHL) s = .fault (.addressingError s.hl) := by
  rw [exec_bitOf, bitTest, State.readOp8, s.memRead_of_refused refused, Result.andThen_fault]

end bitTest

/-- Settles O32: BIT is its read and then the flags; RES and SET write back their byte and then the flags the state had, which
neither the read nor the write has changed. -/
theorem bitTestResetSet : Obligations.BitTestResetSet := by
  unfold Obligations.BitTestResetSet
  intro s b flags
  refine ⟨exec_bitOf_reg s b, exec_bitOf_mHL_of_canRead s b, exec_bitOf_mHL_of_refused s b, fun p listed => ?_⟩
  obtain ⟨f, runs, out⟩ : ∃ f, (∀ o, exec (p.1 o) s = s.modify o f) ∧
      ∀ v, f v s.flags = { res := p.2 v, flags := s.flags } := by
    fin_cases listed
    exacts [⟨resOut b, exec_resOf s b, fun _ => rfl⟩, ⟨setOut b, exec_setOf s b, fun _ => rfl⟩]
  refine ⟨fun r => ?_, fun can stores => ?_, fun refused => ?_⟩
  · rw [runs, s.modify_reg, out, State.setFlags_of_flags_eq (s.setR8_flags r _)]
  · rw [runs, s.modify_mHL_of_canWrite f can (by rwa [out]), out, State.setFlags_of_flags_eq (by simp)]
  · rw [runs, s.modify_mHL_of_refused f (by rwa [out])]

end Sys2Proof.Machine
end

section
/-! SUPPORT. A step from a full halt-bug queue (30_encoding.md R101): the bus does not look at the queue, so the bytes after a
queued byte are fetched as they are after one read at the pc. -/
namespace Sys2Proof.Machine

namespace State

variable (s : State)

/-- The state with another halt-bug queue. -/
def setHq (q : Option Byte) : State := { s with hq := q }

theorem afterRead_setHq (q : Option Byte) (a : Word) : (s.setHq q).afterRead a = (s.afterRead a).setHq q := by
  have same : (s.setHq q).owner a = s.owner a := rfl
  unfold afterRead
  rw [same]
  cases s.owner a <;> rfl

theorem afterReads_setHq (q : Option Byte) (as : List Word) : (s.setHq q).afterReads as = (s.afterReads as).setHq q := by
  induction as generalizing s with
  | nil => rfl
  | cons a as ih => rw [afterReads, afterRead_setHq, ih, afterReads]

variable {s}

theorem holdsAt_setHq {q : Option Byte} {a : Word} {bytes : List Byte} (holds : s.holdsAt a bytes) :
    (s.setHq q).holdsAt a bytes := by
  induction bytes generalizing s a with
  | nil => trivial
  | cons b rest ih =>
    obtain ⟨can, read, holds⟩ := holds
    exact ⟨can, read, s.afterRead_setHq q a ▸ ih holds⟩

/-- A queued byte is taken without a bus access, and the pc stays where it is. -/
theorem fetchOpcode_of_queued {b : Byte} (queued : s.hq = some b) :
    s.fetchOpcode = .next (b, (s.setHq none).setPc s.pc) := by
  rw [fetchOpcode, queued]
  rfl

end State

/-- Settles O7: the opcode fetch answers the queued byte, or reads at the pc; and after a queued byte the later bytes stand
from the pc itself on. -/
theorem queuedByteIsFetched : Obligations.QueuedByteIsFetched := by
  unfold Obligations.QueuedByteIsFetched
  refine ⟨fun s b => State.fetchOpcode_of_queued, fun s => State.fetchOpcode_at_pc, fun s => State.fetchOpcode_refused,
    fun s i b tail runs queued standard holds stop => ?_,
    fun s i b tail k runs queued standard more holds refused stop => ?_, fun s b runs queued first => ?_⟩
  · have opcode := State.fetchOpcode_of_queued queued
    rw [State.step_of_fetchInstr runs (State.fetchInstr_of_holdsAt opcode standard stop (State.holdsAt_setHq holds)),
      State.afterReads_setHq]
    have flags : (s.afterReads (addressesFrom s.pc tail.length)).flags = s.flags := State.afterReads_flags ..
    rw [← flags]
    rfl
  · have opcode := State.fetchOpcode_of_queued queued
    have refused : ((s.setHq none).afterReads (addressesFrom s.pc k)).canRead (s.pc + BitVec.ofNat 16 k) = false := by
      rw [State.afterReads_setHq]
      exact refused
    exact State.step_of_fetchInstr_fault runs
      (State.fetchInstr_of_refused opcode standard stop more (State.holdsAt_setHq holds) refused)
  · exact State.step_of_stop runs (State.fetchOpcode_of_queued queued) rfl first

end Sys2Proof.Machine
end

section
/-! SUPPORT. HALT (46_cpu_control.md R331) and the end of a CPU step (60_exceptions.md R358 to R360): what HALT does with and
without the halt bug, and what the interrupt check makes of a step with nothing pending, with IME clear and with IME set. -/
namespace Sys2Proof.Machine

namespace State

variable {s t : State}

theorem pending_eq (s : State) : s.pending = s.ie.setWidth 5 &&& s.ifl := by
  rw [pending, ← BitVec.setWidth_eq_extractLsb' (by decide)]

theorem pending_congr (ie : t.ie = s.ie) (ifl : t.ifl = s.ifl) : t.pending = s.pending := by rw [pending, pending, ie, ifl]

theorem firstPending_congr (same : t.pending = s.pending) : t.firstPending = s.firstPending := by
  rw [firstPending, firstPending, same]

/-- Some request is served first unless none is pending. -/
theorem firstPending_eq_none_iff (s : State) : s.firstPending = none ↔ s.pending = 0#5 := by
  rw [firstPending]
  generalize s.pending = mask
  revert mask
  decide

/-! The interrupt check. -/

theorem interruptCheck_of_idle (idle : s.pending = 0#5) : s.interruptCheck = .next (0, s) := by
  rw [interruptCheck, s.firstPending_eq_none_iff.mpr idle]

theorem interruptCheck_of_ime_clear (some_pending : s.pending ≠ 0#5) (clear : s.ime = false) :
    s.interruptCheck = .next (0, { s with halted := false }) := by
  obtain ⟨k, first⟩ := Option.ne_none_iff_exists'.mp (mt s.firstPending_eq_none_iff.mp some_pending)
  simp [interruptCheck, first, clear]

theorem interruptCheck_of_ime_set {k : Irq} (set : s.ime = true) (first : s.firstPending = some k) :
    s.interruptCheck =
      (State.service { s with halted := false } k).andThen fun t => .next (Config.irqServiceMCycles, t) := by
  simp [interruptCheck, first, set]

/-! The end of a CPU step with no delayed enable pending before it. -/

section finish

variable (m : Nat)

theorem finishCpuStep_of_idle (idle : s.pending = 0#5) : finishCpuStep false m s = .next (m, s) := by
  rw [finishCpuStep, interruptCheck_of_idle idle]
  rfl

theorem finishCpuStep_of_ime_clear (some_pending : s.pending ≠ 0#5) (clear : s.ime = false) :
    finishCpuStep false m s = .next (m, { s with halted := false }) := by
  rw [finishCpuStep, interruptCheck_of_ime_clear some_pending clear]
  rfl

theorem finishCpuStep_of_ime_set {k : Irq} (set : s.ime = true) (first : s.firstPending = some k) :
    finishCpuStep false m s = (State.service { s with halted := false } k).andThen fun t => .next (m + 5, t) := by
  rw [finishCpuStep, interruptCheck_of_ime_set set first, Result.andThen_assoc]
  rfl

end finish

/-- Waking a state that is the same but for being halted gives it back. -/
theorem wake_of_running (runs : s.halted = false) : { s with halted := false } = s := by rw [← runs]

/-- A halted CPU's step has no instruction: it is the idle count and the end of the step (R359). -/
theorem cpuStep_of_halted (halted : s.halted = true) (no_delay : s.imePending = false) :
    s.cpuStep = finishCpuStep false s.params.haltIdleMCycles s := by
  simp [cpuStep, executeOne, halted, no_delay]

/-- A running CPU's step is its instruction and the end of the step (R358). -/
theorem cpuStep_of_fetchInstr {i : Instr} {u : State} (runs : s.halted = false) (fetched : s.fetchInstr = .next (i, u)) :
    s.cpuStep =
      Result.andThen (exec i u) (finishCpuStep s.imePending (cycles s.params.cycleTable i (taken i u.flags))) := by
  simp only [cpuStep, executeOne, runs, fetched, Result.andThen_next, Result.andThen_assoc, Bool.false_eq_true, if_false]

/-- A byte that the opcode map reads as HALT is the whole instruction. -/
theorem fetchInstr_of_halt {b : Byte} (empty : s.hq = none) (byte : s.params.opcodeMap.firstByte b = 0x76#8)
    (holds : s.holdsAt s.pc [b]) : s.fetchInstr = .next (.halt, (s.afterRead s.pc).setPc (s.pc + 1#16)) := by
  obtain ⟨can, rfl, -⟩ := holds
  have standard : s.params.standardBytes [s.busRead s.pc] = encode .halt := by rw [Params.standardBytes, byte]; rfl
  have fetched := fetchInstr_of_holdsAt (tail := []) (fetchOpcode_at_pc empty can) standard (absurd · (by decide)) trivial
  rwa [List.length_nil, BitVec.add_zero] at fetched

end State

/-! HALT. -/

section halt

variable {s : State}

theorem halt_of_no_bug (no_bug : s.ime = true ∨ s.pending = 0#5) : halt s = .next { s with halted := true } := by
  obtain set | idle := no_bug
  · simp [halt, set]
  · simp [halt, idle]

theorem halt_of_bug (clear : s.ime = false) (some_pending : s.pending ≠ 0#5) :
    halt s = (s.memRead s.pc).andThen fun p => .next { p.2 with halted := true, hq := some p.1 } := by
  simp [halt, clear, some_pending]

theorem halt_of_canRead (clear : s.ime = false) (some_pending : s.pending ≠ 0#5) (can : s.canRead s.pc = true) :
    halt s = .next { s.afterRead s.pc with halted := true, hq := some (s.busRead s.pc) } := by
  rw [halt_of_bug clear some_pending, s.memRead_of_canRead can, Result.andThen_next]

theorem halt_of_refused (clear : s.ime = false) (some_pending : s.pending ≠ 0#5) (refused : s.canRead s.pc = false) :
    halt s = .fault (.addressingError s.pc) := by
  rw [halt_of_bug clear some_pending, s.memRead_of_refused refused, Result.andThen_fault]

/-! HALT and the end of its CPU step, in the three cases of R331's table. -/

section step

variable (m : Nat)

theorem halt_finish_of_idle (idle : s.pending = 0#5) :
    (halt s).andThen (State.finishCpuStep false m) = .next (m, { s with halted := true }) := by
  rw [halt_of_no_bug (.inr idle), Result.andThen_next]
  exact State.finishCpuStep_of_idle m idle

theorem halt_finish_of_ime_set {k : Irq} (runs : s.halted = false) (set : s.ime = true) (first : s.firstPending = some k) :
    (halt s).andThen (State.finishCpuStep false m) = (s.service k).andThen fun t => .next (m + 5, t) := by
  have served := State.finishCpuStep_of_ime_set (s := { s with halted := true }) m set first
  rw [State.wake_of_running runs] at served
  rw [halt_of_no_bug (.inl set), Result.andThen_next, served]

/-- The halt bug: the CPU goes on at once, with the byte at the pc queued. -/
theorem halt_finish_of_ime_clear (runs : s.halted = false) (some_pending : s.pending ≠ 0#5) (clear : s.ime = false)
    (can : s.canRead s.pc = true) :
    (halt s).andThen (State.finishCpuStep false m) =
      .next (m, { s.afterRead s.pc with hq := some (s.busRead s.pc) }) := by
  have read_pending : (s.afterRead s.pc).pending = s.pending := State.pending_congr (by simp) (by simp)
  have woken := State.finishCpuStep_of_ime_clear m
    (s := { s.afterRead s.pc with halted := true, hq := some (s.busRead s.pc) }) (read_pending ▸ some_pending)
    ((s.afterRead_ime s.pc).trans clear)
  rw [halt_of_canRead clear some_pending can, Result.andThen_next, woken, ← (s.afterRead_halted s.pc).trans runs]

end step

end halt

/-- Settles O36: NOP is the state itself, and HALT reads the byte at the pc only where the halt bug has it do so. -/
theorem nopAndHalt : Obligations.NopAndHalt := by
  unfold Obligations.NopAndHalt
  intro s
  have runs : exec .halt s = halt s := rfl
  rw [runs, ← s.pending_eq]
  exact ⟨rfl, halt_of_no_bug, halt_of_canRead, halt_of_refused⟩

/-- The CPU step that runs a HALT from memory, with no delayed enable pending: HALT past its byte, and the end of the step. -/
theorem State.cpuStep_of_halt {s : State} {b : Byte} (runs : s.halted = false) (empty : s.hq = none)
    (no_delay : s.imePending = false) (byte : s.params.opcodeMap.firstByte b = 0x76#8) (holds : s.holdsAt s.pc [b]) :
    s.cpuStep =
      (halt ((s.afterRead s.pc).setPc (s.pc + 1#16))).andThen
        (finishCpuStep false (cycles s.params.cycleTable .halt true)) := by
  rw [cpuStep_of_fetchInstr runs (fetchInstr_of_halt empty byte holds), no_delay]
  rfl

/-- Settles O38: what HALT leaves, or the halted state itself, goes to the end of the step with the requests that were pending
before; a request wakes it there, into the trap entry with IME set. -/
theorem haltAndWake : Obligations.HaltAndWake := by
  unfold Obligations.HaltAndWake
  refine ⟨fun s b runs empty no_delay byte holds => ?_, fun s halted no_delay => ?_, by decide, rfl⟩
  · intro m fetched
    have fetched_runs : fetched.halted = false := (s.afterRead_halted s.pc).trans runs
    have fetched_ime : fetched.ime = s.ime := s.afterRead_ime s.pc
    have fetched_pending : fetched.pending = s.pending := State.pending_congr (s.afterRead_ie s.pc) (s.afterRead_ifl s.pc)
    have step : s.cpuStep = (halt fetched).andThen (State.finishCpuStep false m) :=
      State.cpuStep_of_halt runs empty no_delay byte holds
    rw [step, ← s.pending_eq, ← fetched_pending, ← fetched_ime, ← State.firstPending_congr fetched_pending]
    exact ⟨halt_finish_of_idle m, fun k => halt_finish_of_ime_set m fetched_runs, halt_finish_of_ime_clear m fetched_runs⟩
  · rw [State.cpuStep_of_halted halted no_delay, ← s.pending_eq]
    exact ⟨State.finishCpuStep_of_idle _, State.finishCpuStep_of_ime_clear _, fun k => State.finishCpuStep_of_ime_set _⟩

end Sys2Proof.Machine
end

section
/-! SUPPORT. The machine step and its external requests (60_exceptions.md R410, R357): what a whole CPU step keeps, the clock-ticks
as an iterated function, and what the requests of a schedule's entry set. -/
namespace Sys2Proof.Machine

namespace State

variable {s t : State}

/-! The CPU step keeps what its instruction keeps: fetching only reads, and the trap entry only pushes. -/

theorem kept_fetch8 {p : Byte × State} (fetched : s.fetch8 = .next p) : Kept s p.2 := by
  obtain ⟨q, read, rest⟩ := Result.andThen_eq_next.mp fetched
  cases rest
  exact (plain_memRead read).1.trans (kept_setPc _ _)

theorem kept_fetchOpcode {p : Byte × State} (fetched : s.fetchOpcode = .next p) : Kept s p.2 := by
  cases queue : s.hq with
  | none => exact kept_fetch8 (fetchOpcode_of_hq_none queue ▸ fetched)
  | some b =>
    rw [fetchOpcode_of_queued queue] at fetched
    cases fetched
    exact Kept.of_eq rfl rfl rfl rfl rfl

theorem kept_fetchBytes {n : Nat} {p : List Byte × State} (fetched : fetchBytes n s = .next p) : Kept s p.2 := by
  induction n generalizing s p with
  | zero =>
    cases fetched
    exact Kept.refl s
  | succ n ih =>
    obtain ⟨first, one, rest⟩ := Result.andThen_eq_next.mp fetched
    obtain ⟨others, more, rest⟩ := Result.andThen_eq_next.mp rest
    cases rest
    have kept : Kept first.2 others.2 := ih more
    exact (kept_fetch8 one).trans kept

theorem kept_fetchInstr {p : Instr × State} (fetched : s.fetchInstr = .next p) : Kept s p.2 := by
  rw [fetchInstr_eq] at fetched
  obtain ⟨opcode, first, rest⟩ := Result.andThen_eq_next.mp fetched
  obtain ⟨operands, more, rest⟩ := Result.andThen_eq_next.mp rest
  cases rest
  exact (kept_fetchOpcode first).trans (kept_fetchBytes more)

theorem kept_executeOne {p : Nat × State} (executed : s.executeOne = .next p) : Kept s p.2 := by
  unfold executeOne at executed
  split at executed
  · cases executed
    exact Kept.refl s
  · obtain ⟨fetched, fetch, rest⟩ := Result.andThen_eq_next.mp executed
    obtain ⟨u, run, rest⟩ := Result.andThen_eq_next.mp rest
    cases rest
    exact (kept_fetchInstr fetch).trans (exec_plain run).1

theorem kept_service {k : Irq} (served : s.service k = .next t) : Kept s t := by
  obtain ⟨-, -, rfl⟩ := service_eq_next.mp served
  have cleared : Kept s { s with ifl := s.ifl &&& ~~~k.bit, ime := false } := Kept.of_eq rfl rfl rfl rfl rfl
  exact (cleared.trans (kept_pushed _ _)).trans (kept_setPc _ _)

theorem kept_interruptCheck {p : Nat × State} (checked : s.interruptCheck = .next p) : Kept s p.2 := by
  have awake : Kept s { s with halted := false } := Kept.of_eq rfl rfl rfl rfl rfl
  unfold interruptCheck at checked
  split at checked
  · cases checked
    exact Kept.refl s
  · split at checked
    · obtain ⟨u, served, rest⟩ := Result.andThen_eq_next.mp checked
      cases rest
      exact awake.trans (kept_service served)
    · cases checked
      exact awake

theorem kept_settleIme (before : Bool) (s : State) : Kept s (settleIme before s) := by
  unfold settleIme
  split <;> exact Kept.of_eq rfl rfl rfl rfl rfl

/-- A whole CPU step (R358): its instruction or idle cycle, the interrupt check, the delayed enable. -/
theorem kept_cpuStep {p : Nat × State} (stepped : s.cpuStep = .next p) : Kept s p.2 := by
  obtain ⟨executed, run, rest⟩ := Result.andThen_eq_next.mp stepped
  obtain ⟨checked, check, rest⟩ := Result.andThen_eq_next.mp rest
  cases rest
  exact ((kept_executeOne run).trans (kept_interruptCheck check)).trans (kept_settleIme _ _)

/-! The peripherals' part of a step. -/

section advance

variable (m : Nat) (u : State)

@[simp] theorem advance_ext : (advance m u).ext = u.ext := by simp [advance]
@[simp] theorem advance_params : (advance m u).params = u.params := by simp [advance]
@[simp] theorem advance_irqIn : (advance m u).irqIn = u.irqIn.tail := by simp [advance]

end advance

/-- A machine step answers through its CPU step's answer, which the peripherals then advance. -/
theorem step_eq_next : step s = .next t ↔ ∃ p, s.cpuStep = .next p ∧ advance p.1 p.2 = t := by
  rw [step, machineStep, Result.andThen_eq_next]
  simp only [Host.Outcome.next.injEq]

end State

/-! What `Kept` says of the chip and of the image. -/

theorem Kept.chip_eq {s t : State} (kept : Kept s t) (unnamed : s.ext.noChip) : t.ext.chip = s.ext.chip := by
  rw [kept.ext, kept.cells unnamed]

/-- With no window the image below 0x8000 reads the same: no store reaches it, and its reads are of the stored bytes (D24). -/
theorem Kept.read_image {s t : State} (kept : Kept s t) (no_window : s.ext.windows = []) {a : Word} (image : a.toNat < 0x8000) :
    t.ext.read a = s.ext.read a := by
  obtain ⟨reads, writes⟩ := s.ext.kinds_of_no_window no_window a
  rw [if_neg (by omega)] at writes
  have windows : t.ext.windows = s.ext.windows := by rw [kept.ext]
  exact Ext.read_congr windows (kept.mem a (by simp [writes])) (by simp [reads])

/-- Settles O13: the CPU step keeps all of it, and the ticks and external requests after it touch none of it but the schedule. -/
theorem stepKeepsImageAndArguments : Obligations.StepKeepsImageAndArguments := by
  unfold Obligations.StepKeepsImageAndArguments
  intro s t stepped
  obtain ⟨⟨m, u⟩, cpu, rfl⟩ := State.step_eq_next.mp stepped
  have kept : Kept s u := State.kept_cpuStep cpu
  simp only [State.advance_ext, State.advance_params, State.advance_irqIn]
  exact ⟨kept.params, congrArg List.tail kept.irqIn, kept.ext, kept.mem, fun no_window a => kept.read_image no_window,
    kept.chip_eq⟩

theorem State.ticks_eq_iterate (n : Nat) (s : State) : ticks n s = (fun u => u.lcdStep.timerStep)^[n] s := by
  induction n generalizing s with
  | zero => rfl
  | succ n ih => exact ih s.tick

theorem State.raiseExternal_of_nil {s : State} (empty : s.irqIn = []) : s.raiseExternal = s := by
  rw [raiseExternal, empty]

/-- The entry of this step sets the bits that it asserts. -/
theorem State.raiseExternal_of_cons {s : State} {q : ExtRequest} {rest : List ExtRequest} (entry : s.irqIn = q :: rest) :
    s.raiseExternal =
      { s with
        ifl := s.ifl ||| (if q.serial then Irq.serial.bit else 0#5) ||| (if q.joypad then Irq.joypad.bit else 0#5)
        irqIn := rest } := by
  rw [raiseExternal, entry]
  obtain ⟨serial, joypad⟩ := q
  cases serial <;> cases joypad <;> simp [raise]

/-- Settles O8: the ticks are the iterated tick, and the external requests are those of the schedule's head. -/
theorem machineStepOrder : Obligations.MachineStepOrder := by
  unfold Obligations.MachineStepOrder
  refine ⟨fun s => ?_, fun s => State.raiseExternal_of_nil, fun s q rest => State.raiseExternal_of_cons⟩
  simp only [step, State.machineStep, State.advance, State.ticks_eq_iterate, Config.ticksPerMCycle]

end Sys2Proof.Machine
end

section
/-! SUPPORT. Raising a request and the one served first (60_exceptions.md R356, R360): the request bits one by one. -/
namespace Sys2Proof.Machine

theorem Irq.bit_eq_twoPow (k : Irq) : k.bit = BitVec.twoPow 5 k.index := rfl

theorem Irq.index_lt (k : Irq) : k.index < 5 := by cases k <;> decide

/-- Every one of the five bits of IF is some source's. -/
theorem Irq.exists_index_eq {i : Nat} (bit : i < 5) : ∃ k : Irq, k.index = i := by
  interval_cases i
  exacts [⟨.vblank, rfl⟩, ⟨.lcdStatus, rfl⟩, ⟨.timer, rfl⟩, ⟨.serial, rfl⟩, ⟨.joypad, rfl⟩]

theorem Irq.getLsbD_bit (k : Irq) (i : Nat) : k.bit.getLsbD i = decide (i = k.index) := by
  simp [bit_eq_twoPow, k.index_lt, eq_comm]

namespace State

theorem raise_raise (s : State) (k : Irq) : (s.raise k).raise k = s.raise k := by
  simp [raise, BitVec.or_assoc]

/-- A request is wanted where its bit of the pending mask is set. -/
theorem wants_eq_getLsbD_pending (s : State) (k : Irq) : s.wants k = s.pending.getLsbD k.index := by
  simp [wants, pending_eq, k.index_lt]

theorem pending_eq_zero_iff (s : State) : s.pending = 0#5 ↔ ∀ k, s.wants k = false := by
  simp only [wants_eq_getLsbD_pending]
  refine ⟨fun idle k => by simp [idle], fun none_wanted => BitVec.eq_of_getLsbD_eq fun i bit => ?_⟩
  obtain ⟨k, rfl⟩ := Irq.exists_index_eq bit
  simp [none_wanted k]

/-- The first pending request is the first wanted one of R361's order. -/
theorem firstPending_eq_wants (s : State) :
    s.firstPending =
      if s.wants .vblank then some .vblank
      else if s.wants .lcdStatus then some .lcdStatus
      else if s.wants .timer then some .timer
      else if s.wants .serial then some .serial
      else if s.wants .joypad then some .joypad
      else none := by
  simp only [firstPending, wants_eq_getLsbD_pending, Irq.index]

/-- That order is the order of the indexes. -/
theorem firstPending_of_least {s : State} {k : Irq} (wanted : s.wants k = true)
    (least : ∀ j : Irq, j.index < k.index → s.wants j = false) : s.firstPending = some k := by
  rw [firstPending_eq_wants]
  cases k with
  | vblank => simp [wanted]
  | lcdStatus => simp [wanted, least .vblank (by decide)]
  | timer => simp [wanted, least .vblank (by decide), least .lcdStatus (by decide)]
  | serial => simp [wanted, least .vblank (by decide), least .lcdStatus (by decide), least .timer (by decide)]
  | joypad =>
    simp [wanted, least .vblank (by decide), least .lcdStatus (by decide), least .timer (by decide),
      least .serial (by decide)]

end State

/-- Settles O39: the bit a request has in IF is its index's alone. -/
theorem raiseSetsOneBit : Obligations.RaiseSetsOneBit := by
  unfold Obligations.RaiseSetsOneBit
  intro s k
  refine ⟨fun i => ?_, rfl, s.raise_raise k, rfl, rfl, rfl, rfl, rfl⟩
  rw [State.raise_ifl, BitVec.getLsbD_or, k.getLsbD_bit]

/-- Settles O40: the requests that are wanted are the bits of the pending mask. -/
theorem interruptCheckServesLeast : Obligations.InterruptCheckServesLeast := by
  unfold Obligations.InterruptCheckServesLeast
  intro s
  refine ⟨fun none_wanted => State.interruptCheck_of_idle (s.pending_eq_zero_iff.mpr none_wanted), fun k wanted => ⟨?_, ?_⟩⟩
  · have some_pending : s.pending ≠ 0#5 := fun idle => by simp [s.pending_eq_zero_iff.mp idle k] at wanted
    exact State.interruptCheck_of_ime_clear some_pending
  · exact fun set least => State.interruptCheck_of_ime_set set (State.firstPending_of_least wanted least)

end Sys2Proof.Machine
end

section
/-! SUPPORT. The display's step in OamSearch and in a visible line (60_exceptions.md R392, R394): the dot counted, and the two
events at the last dot. -/
namespace Sys2Proof.Machine

namespace State

variable {s : State}

theorem lcdRuns_iff (s : State) : s.lcdRuns = true ↔ s.params.lcdFreeRun = true ∨ s.lcd.lcdc.getLsbD 7 = true := by
  simp [lcdRuns, displayOn]

theorem strobes_of_stands (stands : s.lcdRuns = false) : s.strobes = [] := by simp [strobes, stands]

theorem lcdStep_of_oamSearch (runs : s.lcdRuns = true) (mode : s.lcd.mode = .oamSearch) :
    s.lcdStep = if s.lcd.dot = 79 then s.countDot.endOamSearch else s.countDot := by
  simp only [lcdStep_of_runs runs, lcdAdvance, mode, Config.oamDots, Nat.reduceEqDiff]

theorem lcdStep_of_hblank (runs : s.lcdRuns = true) (mode : s.lcd.mode = .hblank) :
    s.lcdStep = if s.lcd.dot = 455 then s.countDot.endHBlank else s.countDot := by
  simp only [lcdStep_of_runs runs, lcdAdvance, mode, Config.dotsPerLine, Nat.reduceEqDiff]

theorem strobes_of_oamSearch (mode : s.lcd.mode = .oamSearch) : s.strobes = [] := by
  simp [strobes, Lcd.strobes, mode]

theorem strobes_of_hblank (runs : s.lcdRuns = true) (mode : s.lcd.mode = .hblank) :
    s.strobes = if s.lcd.dot = 455 ∧ s.lcd.ly = 143 then [.frameComplete] else [] := by
  simp [strobes, runs, Lcd.strobes, mode, Config.dotsPerLine, Config.visibleLines]

/-- The end of the last visible line (R392): VBlank is requested and a frame counted. -/
theorem endHBlank_of_last_line (last : s.lcd.ly = 143) :
    s.endHBlank = statEval { s with
      ifl := s.ifl ||| 0b00001#5
      lcd := { s.lcd with dot := 0, ly := 144, mode := .vblank, frame := wrapTo s.params.frameWidth (s.lcd.frame + 1) } } := by
  simp [endHBlank, last, Config.visibleLines, raise, Irq.bit, Irq.index]

theorem endHBlank_of_other_line (other : s.lcd.ly ≠ 143) :
    s.endHBlank = statEval { s with lcd := { s.lcd with dot := 0, ly := s.lcd.ly + 1, mode := .oamSearch } } := by
  simp [endHBlank, other, Config.visibleLines]

end State

/-- Settles O49: in the two modes the step is the counted dot, or at the last dot the mode's end. -/
theorem displayModeChanges : Obligations.DisplayModeChanges := by
  unfold Obligations.DisplayModeChanges
  intro s runs nextFrame
  have frame : nextFrame = wrapTo s.params.frameWidth (s.lcd.frame + 1) := by
    cases width : s.params.frameWidth <;> simp [nextFrame, wrapTo, width]
  have running : runs → s.lcdRuns = true := s.lcdRuns_iff.mpr
  refine ⟨fun off => ?_, fun on before => ?_, fun on mode dot => ⟨?_, State.strobes_of_oamSearch mode⟩,
    fun on mode dot last => ?_, fun on mode dot other => ?_⟩
  · have stands : s.lcdRuns = false := by simpa using mt s.lcdRuns_iff.mp off
    exact ⟨State.lcdStep_of_stands stands, State.strobes_of_stands stands⟩
  · obtain ⟨mode, dot⟩ | ⟨mode, dot⟩ := before
    · rw [State.lcdStep_of_oamSearch (running on) mode, if_neg dot]
      exact ⟨rfl, State.strobes_of_oamSearch mode⟩
    · rw [State.lcdStep_of_hblank (running on) mode, State.strobes_of_hblank (running on) mode, if_neg dot,
        if_neg fun ends => dot ends.1]
      exact ⟨rfl, rfl⟩
  · rw [State.lcdStep_of_oamSearch (running on) mode, if_pos dot, State.endOamSearch, State.countDot, dot]
  · rw [State.lcdStep_of_hblank (running on) mode, State.strobes_of_hblank (running on) mode, if_pos dot,
      if_pos ⟨dot, last⟩, State.endHBlank_of_last_line (s := s.countDot) last, frame]
    exact ⟨rfl, rfl⟩
  · rw [State.lcdStep_of_hblank (running on) mode, State.strobes_of_hblank (running on) mode, if_pos dot,
      if_neg fun ends => other ends.2, State.endHBlank_of_other_line (s := s.countDot) other]
    exact ⟨rfl, rfl⟩

end Sys2Proof.Machine
end

section
/-! SUPPORT. Encoding and decoding are inverse to each other (30_encoding.md R112 to R118, R121): what the decoder makes of an
opcode byte and its operand bytes encodes to those bytes, by the three numbers of operand bytes. -/
namespace Sys2Proof

/-- Settles O2: the round trip of `decode_encode`, one constructor at a time. -/
theorem decodeEncodeAgree : Obligations.DecodeEncodeAgree := by
  unfold Obligations.DecodeEncodeAgree
  exact decode_encode

/-! Encoding gives back the bytes that were decoded. -/

theorem encode_decodeBytes_of_no_operand :
    ∀ op : Byte, operandCount op = 0 → encode (decodeBytes op 0x00#8 0x00#8) = [op] := by
  decide

/-- Every byte after 0xCB is kept (R114). -/
theorem encode_decodeCB : ∀ op2 : Byte, encode (decodeCB op2) = [0xCB#8, op2] := by
  decide

theorem encode_decodeBytes_of_twoByte {op : Byte} (listed : op ∈ twoByteOpcodes) (b1 : Byte) :
    encode (decodeBytes op b1 0x00#8) = [op, b1] := by
  fin_cases listed
  on_goal -1 => exact encode_decodeCB b1 -- the last listed byte is 0xCB
  all_goals rfl

/-- A 16-bit immediate is stored as the two bytes it was put together from, low byte first (R110, D2). -/
theorem encode_decodeBytes_of_threeByte {op : Byte} (listed : op ∈ threeByteOpcodes) (b1 b2 : Byte) :
    encode (decodeBytes op b1 b2) = [op, b1, b2] := by
  have halves : encode (decodeBytes op b1 b2) = [op, loByte (word16 b2 b1), hiByte (word16 b2 b1)] := by
    fin_cases listed <;> rfl
  rw [halves, loByte_word16, hiByte_word16]

theorem operandCount_eq_one {op : Byte} (one : operandCount op = 1) : op ∈ twoByteOpcodes := by
  unfold operandCount at one
  split_ifs at one with three two
  · cases one
  · exact List.contains_iff_mem.mp two

theorem operandCount_eq_two {op : Byte} (two : operandCount op = 2) : op ∈ threeByteOpcodes := by
  unfold operandCount at two
  split_ifs at two with three
  · exact List.contains_iff_mem.mp three
  · cases two

/-- Settles O3: what is decoded is decided by the opcode byte's number of operand bytes, and in each case its encoding is the
opcode byte and exactly those operand bytes. -/
theorem encodeDecodeAgree : Obligations.EncodeDecodeAgree := by
  unfold Obligations.EncodeDecodeAgree
  intro bytes i rest decoded
  match bytes with
  | [] => cases decoded
  | op :: tail =>
    have le := operandCount_le op
    simp only [decode] at decoded
    split at decoded
    case h_1 none =>
      cases decoded
      rw [encode_decodeBytes_of_no_operand op none]; rfl
    case h_2 one =>
      cases decoded
      rw [encode_decodeBytes_of_twoByte (operandCount_eq_one one)]; rfl
    case h_3 => cases decoded
    case h_4 not_zero not_one =>
      cases decoded
      have : operandCount op ≠ 0 := not_zero
      have : operandCount op ≠ 1 := not_one
      rw [encode_decodeBytes_of_threeByte (operandCount_eq_two (by omega))]; rfl
    case h_5 => cases decoded

/-- Settles O1: the words are written out, so decoding each is a computation. -/
theorem decodeWrittenWords : Obligations.DecodeWrittenWords := by
  unfold Obligations.DecodeWrittenWords
  exact ⟨rfl, rfl, rfl, rfl, rfl, rfl, rfl, rfl, rfl, rfl, rfl, rfl⟩

end Sys2Proof
end

section
/-! SUPPORT. The invariant (10_state.md R34 to R40, 60_exceptions.md R363): what a CPU step does to the halt-bug queue, and that
the ticks keep their ranges. -/
namespace Sys2Proof.Machine

namespace State

variable {s t : State}

/-! Fetching leaves the control state alone, but that it takes a queued byte. -/

theorem sameControl_fetch8 {p : Byte × State} (fetched : s.fetch8 = .next p) : s.sameControl p.2 := by
  obtain ⟨q, read, rest⟩ := Result.andThen_eq_next.mp fetched
  cases rest
  exact sameControl_trans (plain_memRead read).2 (sameControl_setPc _ _)

theorem sameControl_fetchBytes {n : Nat} {p : List Byte × State} (fetched : fetchBytes n s = .next p) :
    s.sameControl p.2 := by
  induction n generalizing s p with
  | zero =>
    cases fetched
    exact s.sameControl_refl
  | succ n ih =>
    obtain ⟨first, one, rest⟩ := Result.andThen_eq_next.mp fetched
    obtain ⟨others, more, rest⟩ := Result.andThen_eq_next.mp rest
    cases rest
    have control : first.2.sameControl others.2 := ih more
    exact sameControl_trans (sameControl_fetch8 one) control

theorem sameControl_fetchOpcode {p : Byte × State} (fetched : s.fetchOpcode = .next p) : (s.setHq none).sameControl p.2 := by
  cases queue : s.hq with
  | none =>
    have empty : s.setHq none = s := by rw [setHq, ← queue]
    rw [empty]
    exact sameControl_fetch8 (fetchOpcode_of_hq_none queue ▸ fetched)
  | some b =>
    rw [fetchOpcode_of_queued queue] at fetched
    cases fetched
    exact sameControl_setPc _ _

/-- An instruction runs with an empty queue (30_encoding.md R101). -/
theorem sameControl_fetchInstr {p : Instr × State} (fetched : s.fetchInstr = .next p) : (s.setHq none).sameControl p.2 := by
  rw [fetchInstr_eq] at fetched
  obtain ⟨opcode, first, rest⟩ := Result.andThen_eq_next.mp fetched
  obtain ⟨operands, more, rest⟩ := Result.andThen_eq_next.mp rest
  cases rest
  exact sameControl_trans (sameControl_fetchOpcode first) (sameControl_fetchBytes more)

/-- What holds between an instruction and the interrupt check after it: no delayed enable is pending, and only a HALT that met
the halt bug, with a request pending and IME clear, has filled the queue. -/
def QueuedByBug (s : State) : Prop := s.imePending = false ∧ (s.hq ≠ none → s.ime = false ∧ s.pending ≠ 0#5)

theorem queuedByBug_of_empty (no_delay : s.imePending = false) (empty : s.hq = none) : s.QueuedByBug :=
  ⟨no_delay, absurd empty⟩

end State

theorem queuedByBug_of_halt {s t : State} (no_delay : s.imePending = false) (empty : s.hq = none) (run : halt s = .next t) :
    t.QueuedByBug := by
  by_cases no_bug : s.ime = true ∨ s.pending = 0#5
  · rw [halt_of_no_bug no_bug] at run
    cases run
    exact State.queuedByBug_of_empty no_delay empty
  · obtain ⟨clear, some_pending⟩ := not_or.mp no_bug
    rw [halt_of_bug (by simpa using clear) some_pending] at run
    obtain ⟨p, read, rest⟩ := Result.andThen_eq_next.mp run
    obtain ⟨-, rfl⟩ := State.memRead_eq_next.mp read
    cases rest
    have read_pending : (s.afterRead s.pc).pending = s.pending := State.pending_congr (by simp) (by simp)
    exact ⟨(s.afterRead_imePending s.pc).trans no_delay,
      fun _ => ⟨(s.afterRead_ime s.pc).trans (by simpa using clear), read_pending ▸ some_pending⟩⟩

theorem queuedByBug_of_exec {i : Instr} {s t : State} (ei_at_once : s.params.eiDelay = false) (no_delay : s.imePending = false)
    (empty : s.hq = none) (run : exec i s = .next t) : t.QueuedByBug := by
  by_cases is_halt : i = .halt
  · subst is_halt
    exact queuedByBug_of_halt no_delay empty run
  by_cases is_di : i = .di
  · subst is_di
    cases run
    exact State.queuedByBug_of_empty rfl empty
  by_cases is_ei : i = .ei
  · subst is_ei
    cases (show Host.Outcome.next (enableInterrupts s) = .next t from run)
    rw [enableInterrupts, ei_at_once]
    exact State.queuedByBug_of_empty no_delay empty
  by_cases is_reti : i = .reti
  · subst is_reti
    obtain ⟨p, popped, rest⟩ := Result.andThen_eq_next.mp (show s.returnFromInterrupt = .next t from run)
    obtain ⟨-, pending, -, queue, -⟩ := (State.plain_pop16 popped).2
    cases rest
    exact State.queuedByBug_of_empty (pending.trans no_delay) (queue.trans empty)
  obtain ⟨-, pending, -, queue, -⟩ := (exec_plain run).2 is_halt is_di is_ei is_reti
  exact State.queuedByBug_of_empty (pending.trans no_delay) (queue.trans empty)

namespace State

variable {s t : State}

/-- The trap entry leaves the delayed enable and the queue (R362, R363). -/
theorem service_delay_queue {k : Irq} (served : s.service k = .next t) : t.imePending = s.imePending ∧ t.hq = s.hq := by
  obtain ⟨-, -, rfl⟩ := service_eq_next.mp served
  simp

/-- After the interrupt check a full queue is one of a CPU that runs with IME clear: a pending request wakes it, and with IME
set the queue was empty. -/
theorem interruptCheck_queue {p : Nat × State} (bug : s.QueuedByBug) (checked : s.interruptCheck = .next p) :
    p.2.imePending = false ∧ (p.2.hq ≠ none → p.2.ime = false ∧ p.2.halted = false) := by
  obtain ⟨no_delay, full⟩ := bug
  by_cases idle : s.pending = 0#5
  · rw [interruptCheck_of_idle idle] at checked
    cases checked
    exact ⟨no_delay, fun queued => absurd idle (full queued).2⟩
  · cases set : s.ime with
    | false =>
      rw [interruptCheck_of_ime_clear idle set] at checked
      cases checked
      exact ⟨no_delay, fun _ => ⟨set, rfl⟩⟩
    | true =>
      obtain ⟨k, first⟩ := Option.ne_none_iff_exists'.mp (mt s.firstPending_eq_none_iff.mp idle)
      rw [interruptCheck_of_ime_set set first] at checked
      obtain ⟨u, served, rest⟩ := Result.andThen_eq_next.mp checked
      obtain ⟨pending, queue⟩ := service_delay_queue served
      cases rest
      refine ⟨pending.trans no_delay, fun queued => ?_⟩
      rw [queue] at queued
      exact absurd (set.symm.trans (full queued).1) (by decide)

theorem executeOne_queue {p : Nat × State} (ei_at_once : s.params.eiDelay = false) (range : s.queueInRange)
    (executed : s.executeOne = .next p) : p.2.QueuedByBug := by
  obtain ⟨no_delay, full⟩ := range ei_at_once
  unfold executeOne at executed
  split at executed
  case isTrue halted =>
    cases executed
    exact ⟨no_delay, fun queued => absurd (halted.symm.trans (full queued).2) (by decide)⟩
  case isFalse =>
    obtain ⟨fetched, fetch, rest⟩ := Result.andThen_eq_next.mp executed
    obtain ⟨u, run, rest⟩ := Result.andThen_eq_next.mp rest
    cases rest
    obtain ⟨-, pending, -, queue, -, params⟩ := sameControl_fetchInstr fetch
    exact queuedByBug_of_exec ((congrArg Params.eiDelay params).trans ei_at_once) (pending.trans no_delay) queue run

theorem settleIme_of_no_delay : settleIme false s = s := rfl

theorem cpuStep_queueInRange {p : Nat × State} (range : s.queueInRange) (stepped : s.cpuStep = .next p) :
    p.2.queueInRange := by
  intro ei_at_once
  rw [(kept_cpuStep stepped).params] at ei_at_once
  obtain ⟨executed, run, rest⟩ := Result.andThen_eq_next.mp stepped
  obtain ⟨checked, check, rest⟩ := Result.andThen_eq_next.mp rest
  cases rest
  rw [(range ei_at_once).1, settleIme_of_no_delay]
  have queue := interruptCheck_queue (executeOne_queue ei_at_once range run) check
  exact queue

/-! What an instruction keeps of the timer and the display is within their ranges, and the ticks stay there. -/

theorem timer_inRange_of_kept (kept : Kept s t) (range : s.timer.inRange) : t.timer.inRange := by
  obtain ⟨div, tima⟩ := range
  refine ⟨?_, by rw [kept.timaAcc]; exact tima⟩
  obtain same | cleared := kept.divAcc
  · rw [same]; exact div
  · rw [cleared]; decide

theorem lcd_inRange_of_kept (kept : Kept s t) (range : s.lcd.inRange) : t.lcd.inRange := by
  rw [Lcd.inRange, kept.mode, kept.dot, kept.ly]
  exact range

theorem ticks_inRange (n : Nat) (timer : s.timer.inRange) (lcd : s.lcd.inRange) :
    (ticks n s).timer.inRange ∧ (ticks n s).lcd.inRange :=
  ticks_keep (fun u => u.timer.inRange ∧ u.lcd.inRange)
    (fun u range => ⟨u.tick_timer ▸ u.timer.tick_inRange range.1, u.tick_lcd ▸ u.lcdStep_inRange range.2⟩) n s ⟨timer, lcd⟩

/-- The peripherals' part of a step keeps the invariant. -/
theorem advance_inv (m : Nat) (inv : s.Inv) : (advance m s).Inv := by
  obtain ⟨wf, timer, lcd, queue⟩ := inv
  obtain ⟨timer', lcd'⟩ := ticks_inRange (Config.ticksPerMCycle * m) timer lcd
  have same : (advance m s).sameControl { s with irqIn := (advance m s).irqIn } := by simp [advance, sameControl]
  refine ⟨by rw [advance_ext]; exact wf, ?_, ?_, ?_⟩
  · rw [advance, raiseExternal_timer]; exact timer'
  · rw [advance, raiseExternal_lcd]; exact lcd'
  · obtain ⟨ime, pending, halted, hq, -, params⟩ := same
    rw [queueInRange, ← ime, ← pending, ← halted, ← hq, ← params]
    exact queue

end State

/-- Settles O12: the CPU step keeps the canonical memory and the ranges and takes or fills the queue as R101 and R331 say, and
the ticks after it keep the ranges. -/
theorem stepKeepsInvariant : Obligations.StepKeepsInvariant := by
  unfold Obligations.StepKeepsInvariant
  intro s t inv stepped
  obtain ⟨⟨m, u⟩, cpu, rfl⟩ := State.step_eq_next.mp stepped
  obtain ⟨wf, timer, lcd, queue⟩ := inv
  have kept : Kept s u := State.kept_cpuStep cpu
  exact State.advance_inv m ⟨kept.wf wf, State.timer_inRange_of_kept kept timer, State.lcd_inRange_of_kept kept lcd,
    State.cpuStep_queueInRange queue cpu⟩

/-- Settles O11: the fields are as they are written in `State.reset`, and the invariant is a computation on them. -/
theorem resetStateAndInvariant : Obligations.ResetStateAndInvariant := by
  unfold Obligations.ResetStateAndInvariant
  intro s
  have inv : s.Inv := by decide
  exact ⟨rfl, rfl, rfl, rfl, rfl, rfl, rfl, rfl, rfl, rfl, rfl, rfl, rfl, rfl, rfl, rfl, rfl, rfl, rfl, rfl, rfl, rfl, rfl, rfl,
    rfl, inv, rfl, rfl⟩

end Sys2Proof.Machine
end

section
/-! SUPPORT. The display's step (60_exceptions.md R390 to R399): the latches and their line in one record, PixelTransfer and
VBlank, and the clock that the four modes make. -/
namespace Sys2Proof.Machine

/-- The line goes from false to true when the latches are evaluated (R396). -/
def Lcd.rises (l : Lcd) : Bool := !l.statLine && l.evalLatches.statLine

namespace State

variable {s : State}

theorem statEval_eq (s : State) :
    s.statEval = { s with lcd := s.lcd.evalLatches, ifl := s.ifl ||| (if s.lcd.rises then 0b00010#5 else 0#5) } := by
  have edge : (!s.lcd.statLine && s.lcd.evalLatches.statLine) = s.lcd.rises := rfl
  rw [statEval, edge]
  cases s.lcd.rises
  · exact congrArg (fun f => ({ s with lcd := s.lcd.evalLatches, ifl := f } : State)) BitVec.or_zero.symm
  · rfl

/-- The end of a VBlank line (R393): the last of them ends the frame, whose window line is then 0 in every width. -/
theorem endVBlankLine_eq (s : State) :
    s.endVBlankLine = statEval { s with lcd :=
      if s.lcd.ly = 153 then { s.lcd with dot := 0, ly := 0, windowLine := 0, mode := .oamSearch }
      else { s.lcd with dot := 0, ly := s.lcd.ly + 1 } } := by
  have zero : wrapTo s.params.windowLineWidth 0 = 0 := by cases s.params.windowLineWidth <;> simp [wrapTo]
  by_cases last : s.lcd.ly = 153 <;> simp [endVBlankLine, Config.linesPerFrame, last, zero]

theorem lcdStep_of_pixelTransfer (runs : s.lcdRuns = true) (mode : s.lcd.mode = .pixelTransfer) :
    s.lcdStep = if s.lcd.dot = 251 then s.countDot.endPixelTransfer else s.countDot := by
  simp only [lcdStep_of_runs runs, lcdAdvance, mode, pixelTransferEnd, Config.oamDots, Config.pixelTransferDots, Nat.reduceEqDiff]

theorem lcdStep_of_vblank (runs : s.lcdRuns = true) (mode : s.lcd.mode = .vblank) :
    s.lcdStep = if s.lcd.dot = 455 then s.countDot.endVBlankLine else s.countDot := by
  simp only [lcdStep_of_runs runs, lcdAdvance, mode, Config.dotsPerLine, Nat.reduceEqDiff]

theorem strobes_of_vblank (mode : s.lcd.mode = .vblank) : s.strobes = [] := by
  simp [strobes, Lcd.strobes, mode]

/-- Dot `p` of PixelTransfer emits pixel `p - 13` after the twelve dots of the fetch (R391, D22). -/
theorem strobes_of_pixelTransfer {p : Nat} (runs : s.lcdRuns = true) (mode : s.lcd.mode = .pixelTransfer)
    (dot : s.lcd.dot + 1 = 80 + p) :
    s.strobes = if 13 ≤ p then [.pixelPlaced (p - 13) s.lcd.ly] else [] := by
  have position : s.lcd.dot + 1 - Config.oamDots = p := by rw [dot]; exact Nat.add_sub_cancel_left 80 p
  simp only [strobes, runs, if_true, Lcd.strobes, mode, position]
  rfl

end State

/-- Settles O51: the latches are those of the record, and a request is raised at the edge of their OR. -/
theorem statLineEdge : Obligations.StatLineEdge := by
  unfold Obligations.StatLineEdge
  intro s l old new
  have latches : s.lcd.evalLatches = l := by simp only [Lcd.evalLatches, Lcd.lyMatch, beq_eq_decide, l]
  have edge : s.lcd.rises = (!old && new) := by rw [Lcd.rises, latches]; rfl
  rw [State.statEval_eq, latches, edge]

/-- Settles O50: in the two modes the step is the counted dot, or at the last dot the mode's or the line's end. -/
theorem pixelTransferAndVBlankLines : Obligations.PixelTransferAndVBlankLines := by
  unfold Obligations.PixelTransferAndVBlankLines
  intro s on
  have runs : s.lcdRuns = true := s.lcdRuns_iff.mpr on
  refine ⟨fun p first last mode dot => ⟨State.strobes_of_pixelTransfer runs mode dot, ?_⟩, fun mode dot => ?_,
    fun mode dot => ?_, State.strobes_of_vblank⟩
  · have counted : s.countDot = { s with lcd := { s.lcd with dot := 80 + p } } := by rw [State.countDot, dot]
    have ends : s.lcd.dot = 251 ↔ p = 172 := by omega
    rw [State.lcdStep_of_pixelTransfer runs mode, counted, if_congr ends rfl rfl]
    split_ifs with end_of_mode
    · rw [end_of_mode]; rfl
    · rfl
  · rw [State.lcdStep_of_vblank runs mode, if_pos dot, State.endVBlankLine_eq]
    rfl
  · rw [State.lcdStep_of_vblank runs mode, if_neg dot]
    rfl

/-! The clock. -/

namespace State

variable {s : State}

theorem clock_eq (l : Lcd) : l.clock = l.ly * 456 + l.dot := rfl

/-! What the events at the last dots make of the clock. -/

theorem statEval_clock (s : State) : s.statEval.lcd.clock = s.lcd.clock := by rw [statEval_lcd]; rfl

theorem countDot_clock (s : State) : s.countDot.lcd.clock = s.lcd.clock + 1 := (Nat.add_assoc ..).symm

theorem endOamSearch_clock (s : State) : s.endOamSearch.lcd.clock = s.lcd.clock := statEval_clock _

theorem endPixelTransfer_clock (s : State) : s.endPixelTransfer.lcd.clock = s.lcd.clock := statEval_clock _

theorem endHBlank_clock (s : State) : s.endHBlank.lcd.clock = (s.lcd.ly + 1) * 456 := by
  have position : s.endHBlank.lcd.ly = s.lcd.ly + 1 ∧ s.endHBlank.lcd.dot = 0 := by
    by_cases last : s.lcd.ly = 143
    · rw [endHBlank_of_last_line last, statEval_lcd, last]
      exact ⟨rfl, rfl⟩
    · rw [endHBlank_of_other_line last, statEval_lcd]
      exact ⟨rfl, rfl⟩
  rw [clock_eq, position.1, position.2, Nat.add_zero]

theorem endVBlankLine_clock (s : State) :
    s.endVBlankLine.lcd.clock = if s.lcd.ly = 153 then 0 else (s.lcd.ly + 1) * 456 := by
  have position : s.endVBlankLine.lcd.ly = (if s.lcd.ly = 153 then 0 else s.lcd.ly + 1) ∧ s.endVBlankLine.lcd.dot = 0 := by
    rw [endVBlankLine_eq, statEval_lcd]
    split_ifs <;> exact ⟨rfl, rfl⟩
  rw [clock_eq, position.1, position.2, Nat.add_zero, ite_mul, Nat.zero_mul]

/-- Each tick of a stepping display moves its clock on by one, from the end of the last line back to the start (R395). -/
theorem lcdStep_clock (runs : s.lcdRuns = true) (range : s.lcd.inRange) :
    s.lcdStep.lcd.clock = (s.lcd.clock + 1) % 70224 := by
  obtain ⟨oam, pixels, hblank, vblank⟩ := range
  have clock := clock_eq s.lcd
  have counts := countDot_clock s
  cases mode : s.lcd.mode with
  | oamSearch =>
    obtain ⟨dot, ly⟩ := oam mode
    have ends := endOamSearch_clock s.countDot
    rw [lcdStep_of_oamSearch runs mode]
    split_ifs <;> omega
  | pixelTransfer =>
    obtain ⟨-, dot, ly⟩ := pixels mode
    have ends := endPixelTransfer_clock s.countDot
    rw [lcdStep_of_pixelTransfer runs mode]
    split_ifs <;> omega
  | hblank =>
    obtain ⟨-, dot, ly⟩ := hblank mode
    have ends : s.countDot.endHBlank.lcd.clock = (s.lcd.ly + 1) * 456 := endHBlank_clock s.countDot
    rw [lcdStep_of_hblank runs mode]
    split_ifs <;> omega
  | vblank =>
    obtain ⟨dot, -, ly⟩ := vblank mode
    have ends : s.countDot.endVBlankLine.lcd.clock = if s.lcd.ly = 153 then 0 else (s.lcd.ly + 1) * 456 :=
      endVBlankLine_clock s.countDot
    rw [lcdStep_of_vblank runs mode]
    split_ifs at ends ⊢ <;> omega

theorem clock_lt (range : s.lcd.inRange) : s.lcd.clock < 70224 := by
  obtain ⟨oam, pixels, hblank, vblank⟩ := range
  rw [Lcd.clock, Config.dotsPerLine]
  cases mode : s.lcd.mode with
  | oamSearch => have := oam mode; omega
  | pixelTransfer => have := pixels mode; omega
  | hblank => have := hblank mode; omega
  | vblank => have := vblank mode; omega

theorem lcdStep_iterate_clock (n : Nat) (runs : s.lcdRuns = true) (range : s.lcd.inRange) :
    (lcdStep^[n] s).lcd.inRange ∧ (lcdStep^[n] s).lcd.clock = (s.lcd.clock + n) % 70224 := by
  induction n generalizing s with
  | zero =>
    refine ⟨range, ?_⟩
    rw [Function.iterate_zero_apply, Nat.add_zero, Nat.mod_eq_of_lt (clock_lt range)]
  | succ n ih =>
    obtain ⟨range', clock⟩ := ih (s.lcdStep_lcdRuns.trans runs) (s.lcdStep_inRange range)
    rw [Function.iterate_succ_apply]
    refine ⟨range', ?_⟩
    rw [clock, lcdStep_clock runs range]
    omega

end State

/-- Settles O52: a running display moves its clock by one in each tick, and one that stands does not move. -/
theorem displayIsAClock : Obligations.DisplayIsAClock := by
  unfold Obligations.DisplayIsAClock
  intro s n range
  refine ⟨fun on => State.lcdStep_iterate_clock n (s.lcdRuns_iff.mpr on) range, fun no_free_run off => ?_⟩
  have stands : s.lcdRuns = false := by rw [State.lcdRuns, State.displayOn, no_free_run, off]; rfl
  exact Function.iterate_fixed (State.lcdStep_of_stands stands) n

end Sys2Proof.Machine
end

section
/-! SUPPORT. The timer's tick as one record (60_exceptions.md R381), the count of its counter over many ticks, and that it and
the display's tick do not meet (R411). -/
namespace Sys2Proof.Machine

/-! The timer. -/

/-- The period that TAC selects (10_state.md R36). -/
theorem timerPeriod_select (t : Timer) : timerPeriod t.select = [1024, 16, 64, 256].getD (t.tac.toNat % 4) 0 := by
  rw [Timer.select]
  generalize t.tac = tac
  revert tac
  decide

/-- The counter steps in this tick. -/
def Timer.fires (t : Timer) : Bool := t.enabled && decide (timerPeriod t.select ≤ t.timaAcc + 1)

theorem Timer.overflows_eq (t : Timer) : t.overflows = (t.fires && decide (t.tima = 0xFF#8)) := rfl

theorem Timer.divTick_eq (t : Timer) :
    t.divTick =
      { t with
        div := if 256 ≤ t.divAcc + 1 then t.div + 1#8 else t.div
        divAcc := if 256 ≤ t.divAcc + 1 then 0 else t.divAcc + 1 } := by
  unfold divTick
  split_ifs with wraps more more
  · rfl
  · exact absurd wraps more
  · exact absurd more wraps
  · rfl

theorem Timer.counterTick_eq (t : Timer) :
    t.counterTick =
      { t with
        tima := if t.overflows then t.tma else if t.fires then t.tima + 1#8 else t.tima
        timaAcc := if t.fires then 0 else if t.enabled then t.timaAcc + 1 else t.timaAcc } := by
  rw [counterTick, overflows_eq]
  by_cases enabled : t.enabled = true
  · by_cases due : timerPeriod t.select ≤ t.timaAcc + 1
    · have fires : t.fires = true := by simp [Timer.fires, enabled, due]
      simp [enabled, due, fires]
    · have fires : t.fires = false := by simp [Timer.fires, due]
      simp [enabled, due, fires]
  · have fires : t.fires = false := by simp [Timer.fires, enabled]
    simp [enabled, fires]

/-- Both halves of a tick in one record: the divider's half leaves the counter. -/
theorem Timer.tick_eq (t : Timer) :
    t.divTick.counterTick =
      { div := if 256 ≤ t.divAcc + 1 then t.div + 1#8 else t.div
        divAcc := if 256 ≤ t.divAcc + 1 then 0 else t.divAcc + 1
        tima := if t.overflows then t.tma else if t.fires then t.tima + 1#8 else t.tima
        tma := t.tma
        timaAcc := if t.fires then 0 else if t.enabled then t.timaAcc + 1 else t.timaAcc
        tac := t.tac } := by
  rw [counterTick_eq, divTick_eq]
  rfl

namespace State

variable (s : State)

/-- The state with another timer and some more requests pending. -/
def withTimer (t : Timer) (requests : BitVec 5) : State := { s with timer := t, ifl := s.ifl ||| requests }

/-- A tick of the timer reads and writes the timer, and may raise its request. -/
theorem timerStep_eq :
    s.timerStep = s.withTimer s.timer.divTick.counterTick (if s.timer.overflows then Irq.timer.bit else 0#5) := by
  rw [timerStep]
  split_ifs
  · rfl
  · rw [withTimer, BitVec.or_zero]

end State

/-- Settles O47: a tick is the divider's half and the counter's, with the period that TAC selects. -/
theorem timerTick : Obligations.TimerTick := by
  unfold Obligations.TimerTick
  intro s period fires overflow
  have hfires : s.timer.fires = fires := by rw [Timer.fires, timerPeriod_select]; rfl
  have hoverflow : s.timer.overflows = overflow := by rw [Timer.overflows_eq, hfires]
  rw [State.timerStep_eq, Timer.tick_eq, hfires, hoverflow]
  rfl

/-! The display's tick beside the timer's. -/

namespace State

variable (s : State) (t : Timer) (requests : BitVec 5)

theorem withTimer_statEval : (s.withTimer t requests).statEval = s.statEval.withTimer t requests := by
  rw [statEval_eq, statEval_eq, withTimer, withTimer, BitVec.or_assoc, BitVec.or_comm requests, ← BitVec.or_assoc]

theorem withTimer_endHBlank : (s.withTimer t requests).endHBlank = s.endHBlank.withTimer t requests := by
  by_cases last : s.lcd.ly = 143
  · rw [endHBlank_of_last_line (s := s.withTimer t requests) last, endHBlank_of_last_line last, ← withTimer_statEval, withTimer,
      withTimer, BitVec.or_assoc, BitVec.or_comm requests, ← BitVec.or_assoc]
  · rw [endHBlank_of_other_line (s := s.withTimer t requests) last, endHBlank_of_other_line last, ← withTimer_statEval]
    rfl

theorem withTimer_endVBlankLine : (s.withTimer t requests).endVBlankLine = s.endVBlankLine.withTimer t requests := by
  rw [endVBlankLine_eq, endVBlankLine_eq, ← withTimer_statEval]
  rfl

theorem withTimer_endOamSearch : (s.withTimer t requests).endOamSearch = s.endOamSearch.withTimer t requests := by
  rw [endOamSearch, endOamSearch, ← withTimer_statEval]
  rfl

theorem withTimer_endPixelTransfer : (s.withTimer t requests).endPixelTransfer = s.endPixelTransfer.withTimer t requests := by
  rw [endPixelTransfer, endPixelTransfer, ← withTimer_statEval]
  rfl

theorem withTimer_lcdAdvance : (s.withTimer t requests).lcdAdvance = s.lcdAdvance.withTimer t requests := by
  have lcd : (s.withTimer t requests).lcd = s.lcd := rfl
  have dot : (s.withTimer t requests).countDot = s.countDot.withTimer t requests := rfl
  simp only [lcdAdvance, lcd, dot, withTimer_endOamSearch, withTimer_endPixelTransfer, withTimer_endHBlank,
    withTimer_endVBlankLine]
  cases s.lcd.mode <;> dsimp only <;> split_ifs <;> rfl

/-- The display looks at no timer and at no request. -/
theorem withTimer_lcdStep : (s.withTimer t requests).lcdStep = s.lcdStep.withTimer t requests := by
  have runs : (s.withTimer t requests).lcdRuns = s.lcdRuns := rfl
  unfold lcdStep
  rw [runs]
  split_ifs
  · exact s.withTimer_lcdAdvance t requests
  · rfl

end State

/-- Settles O9: the timer's tick depends on the timer alone, which the display's tick leaves, and the two only add requests. -/
theorem displayAndTimerCommute : Obligations.DisplayAndTimerCommute := by
  unfold Obligations.DisplayAndTimerCommute
  intro s
  rw [State.timerStep_eq, State.timerStep_eq, State.lcdStep_timer, State.withTimer_lcdStep]

/-! The counter at 262144 Hz. -/

/-- Where the counter stands after `n` ticks at 262144 Hz from zero, before its overflow. -/
structure CountsFast (s : State) (n : Nat) (t : State) : Prop where
  tac : t.timer.tac = 0b101#3
  tma : t.timer.tma = s.timer.tma
  tima : t.timer.tima = BitVec.ofNat 8 (n / 16)
  timaAcc : t.timer.timaAcc = n % 16
  ifl : t.ifl = s.ifl

namespace CountsFast

variable {s t : State} {n : Nat} (counts : CountsFast s n t)

include counts

theorem enabled : t.timer.enabled = true := by rw [Timer.enabled, counts.tac]; rfl

theorem fires : t.timer.fires = decide (n % 16 = 15) := by
  have period : timerPeriod t.timer.select = 16 := by rw [timerPeriod_select, counts.tac]; rfl
  rw [Timer.fires, counts.enabled, period, counts.timaAcc, Bool.true_and]
  exact decide_eq_decide.mpr (by omega)

theorem overflows (bound : n < 4096) : t.timer.overflows = decide (n = 4095) := by
  have full : BitVec.ofNat 8 (n / 16) = 0xFF#8 ↔ n / 16 = 255 := by
    rw [← BitVec.toNat_inj, BitVec.toNat_ofNat, Nat.mod_eq_of_lt (by omega)]; rfl
  rw [Timer.overflows_eq, counts.fires, counts.tima, ← Bool.decide_and]
  exact decide_eq_decide.mpr (by rw [full]; omega)

/-- The tick of the overflow, and every other one (R381). -/
theorem timerStep_last (last : n = 4095) :
    t.timerStep.timer.tima = s.timer.tma ∧ t.timerStep.timer.timaAcc = 0 ∧ t.timerStep.ifl = s.ifl ||| 0b00100#5 := by
  have fires : t.timer.fires = true := by rw [counts.fires, last]; rfl
  have overflows : t.timer.overflows = true := by rw [counts.overflows (by omega), last]; rfl
  rw [State.timerStep_eq, Timer.tick_eq, fires, overflows, ← counts.tma, ← counts.ifl]
  exact ⟨rfl, rfl, rfl⟩

theorem timerStep_next (next : n < 4095) : CountsFast s (n + 1) t.timerStep := by
  have overflows : t.timer.overflows = false := by
    rw [counts.overflows (by omega)]
    exact decide_eq_false (by omega)
  rw [State.timerStep_eq, Timer.tick_eq, overflows, counts.fires, counts.enabled, counts.tima, counts.timaAcc]
  refine ⟨counts.tac, counts.tma, ?_, ?_, ?_⟩
  · by_cases wraps : n % 16 = 15
    · have carry : (n + 1) / 16 = n / 16 + 1 := by omega
      simp [wraps, carry, State.withTimer, BitVec.ofNat_add]
    · have same : (n + 1) / 16 = n / 16 := by omega
      simp [wraps, same, State.withTimer]
  · by_cases wraps : n % 16 = 15
    · have carry : (n + 1) % 16 = 0 := by omega
      simp [wraps, carry, State.withTimer]
    · have step : (n + 1) % 16 = n % 16 + 1 := by omega
      simp [wraps, step, State.withTimer]
  · exact BitVec.or_zero.trans counts.ifl

end CountsFast

theorem countsFast_iterate {s : State} (zero : CountsFast s 0 s) {n : Nat} (bound : n < 4096) :
    CountsFast s n (State.timerStep^[n] s) := by
  induction n with
  | zero => exact zero
  | succ n ih =>
    rw [Function.iterate_succ_apply']
    exact (ih (by omega)).timerStep_next (by omega)

/-- Settles O48: the counter stands at `n / 16` and `n % 16` after `n` ticks, up to the tick of the overflow. -/
theorem timerOverflowAfter4096Ticks : Obligations.TimerOverflowAfter4096Ticks := by
  unfold Obligations.TimerOverflowAfter4096Ticks
  intro s tac tima timaAcc
  have zero : CountsFast s 0 s := ⟨tac, rfl, tima, timaAcc, rfl⟩
  refine ⟨fun n bound => ?_, ?_⟩
  · have counts := countsFast_iterate zero bound
    exact ⟨counts.ifl, counts.tima⟩
  · rw [Function.iterate_succ_apply']
    exact (countsFast_iterate zero (by decide)).timerStep_last rfl

end Sys2Proof.Machine
end

section
/-! SUPPORT. The register views (10_state.md R20 to R23): the `F` view of flags, and the pairs as their halves. -/
namespace Sys2Proof

/-- A mask on a pair is a mask on each half. -/
theorem word16_and_word16 (h l m n : Byte) : word16 h l &&& word16 m n = word16 (h &&& m) (l &&& n) := BitVec.and_append

/-- Clearing the low nibble of a word clears that of its low byte. -/
theorem and_FFF0_eq (v : Word) : v &&& 0xFFF0#16 = word16 (hiByte v) (loByte v &&& 0xF0#8) := by
  have mask : 0xFFF0#16 = word16 0xFF#8 0xF0#8 := rfl
  have all_ones : hiByte v &&& 0xFF#8 = hiByte v := BitVec.and_allOnes
  conv_lhs => rw [mask, ← word16_hi_lo v, word16_and_word16, all_ones]

namespace Machine

/-- Each flag stands at its own place alone. -/
theorem Flags.getLsbD_toByte {p : FlagBits} (hp : p.wf = true) (f : Flags) :
    (f.toByte p).getLsbD p.z = f.z ∧ (f.toByte p).getLsbD p.n = f.n ∧ (f.toByte p).getLsbD p.h = f.h ∧
      (f.toByte p).getLsbD p.c = f.c := by
  obtain ⟨⟨-, hz⟩, ⟨-, hn⟩, ⟨-, hh⟩, ⟨-, hc⟩, zn, zh, zc, nh, nc, hc'⟩ := (FlagBits.wf_iff p).mp hp
  simp only [Flags.toByte, BitVec.getLsbD_or, getLsbD_flagAt _ _ _ hz, getLsbD_flagAt _ _ _ hn, getLsbD_flagAt _ _ _ hh,
    getLsbD_flagAt _ _ _ hc]
  simp [zn, zh, zc, nh, nc, hc', zn.symm, zh.symm, zc.symm, nh.symm, nc.symm, hc'.symm]

theorem Flags.ofByte_toByte {p : FlagBits} (hp : p.wf = true) (f : Flags) : Flags.ofByte p (f.toByte p) = f := by
  obtain ⟨z, n, h, c⟩ := Flags.getLsbD_toByte hp f
  rw [Flags.ofByte, z, n, h, c]

/-- No flag's place is in the low nibble. -/
theorem Flags.toByte_and_low {p : FlagBits} (hp : p.wf = true) (f : Flags) : f.toByte p &&& 0x0F#8 = 0#8 := by
  have masks : 0xF0#8 &&& 0x0F#8 = 0#8 := rfl
  rw [← Flags.ofByte_toByte hp f, Flags.toByte_ofByte hp, BitVec.and_assoc, masks, BitVec.and_zero]

namespace State

variable (s : State)

theorem getR16_setR16 (r : Reg16) (v : Word) : (s.setR16 r v).getR16 r = v := by
  cases r with
  | sp => rfl
  | bc | de | hl => exact word16_hi_lo v

/-- Writing `AF` writes `F` through FLAG_BITS, which drops the low nibble (R22). -/
theorem af_setAF (v : Word) (hp : s.params.flagBits.wf = true) : (s.setAF v).af = v &&& 0xFFF0#16 := by
  rw [and_FFF0_eq, ← Flags.toByte_ofByte hp]
  rfl

end State

/-- Settles O14: registers and pairs by cases, and the `F` view by the places of the four flags. -/
theorem registerViews : Obligations.RegisterViews := by
  unfold Obligations.RegisterViews
  refine ⟨State.getR8_setR8, fun s => ⟨rfl, rfl, rfl, rfl⟩, State.getR16_setR16, fun s v => ⟨s.af_setAF v, rfl⟩,
    fun p f v hp => ?_, rfl, ?_⟩
  · obtain ⟨z, n, h, c⟩ := Flags.getLsbD_toByte hp f
    exact ⟨z, n, h, c, Flags.toByte_and_low hp f, Flags.ofByte_toByte hp f, Flags.toByte_ofByte hp v⟩
  · rintro ⟨z, n, h, c⟩
    revert z n h c
    decide

end Machine
end Sys2Proof
end

section
/-! SUPPORT. The loads and stores that step `HL` (40_load8.md R156 to R159). -/
namespace Sys2Proof.Machine

section step

variable {s : State} (d : Word)

theorem loadStep_of_canRead (can : s.canRead s.hl = true) :
    loadStep d s = .next (((s.afterRead s.hl).setR8 .a (s.busRead s.hl)).setHL (s.hl + d)) := by
  rw [loadStep, s.memRead_of_canRead can, Result.andThen_next]

theorem loadStep_of_refused (refused : s.canRead s.hl = false) : loadStep d s = .fault (.addressingError s.hl) := by
  rw [loadStep, s.memRead_of_refused refused, Result.andThen_fault]

/-- The store leaves `HL` as it was, so that the step is from the old one. -/
theorem storeStep_of_canWrite (can : s.canWrite s.hl s.regs.a = true) :
    storeStep d s = .next ((s.busWrite s.hl s.regs.a).setHL (s.hl + d)) := by
  rw [storeStep, s.storeA_of_canWrite can, Result.andThen_next, s.busWrite_hl]

theorem storeStep_of_refused (refused : s.canWrite s.hl s.regs.a = false) :
    storeStep d s = .fault (.addressingError s.hl) := by
  rw [storeStep, s.storeA_of_refused refused, Result.andThen_fault]

end step

/-- Settles O18: the four forms are the two steps by 1 and by -1. -/
theorem loadAndStoreWithHLStep : Obligations.LoadAndStoreWithHLStep := by
  unfold Obligations.LoadAndStoreWithHLStep
  intro s
  rw [BitVec.sub_eq_add_neg]
  exact ⟨fun can => ⟨loadStep_of_canRead _ can, loadStep_of_canRead _ can⟩,
    fun refused => ⟨loadStep_of_refused _ refused, loadStep_of_refused _ refused⟩,
    fun can => ⟨storeStep_of_canWrite _ can, storeStep_of_canWrite _ can⟩,
    fun refused => ⟨storeStep_of_refused _ refused, storeStep_of_refused _ refused⟩⟩

end Sys2Proof.Machine
end

section
/-! SUPPORT. The subtractions, the bitwise operations and DAA (42_alu8.md R202 to R219), read off unbounded integers. -/
namespace Sys2Proof.Machine

theorem ofInt_beq_zero (n : Int) : (BitVec.ofInt 8 n == 0#8) = decide (n % 256 = 0) := by
  rw [beq_eq_decide]
  refine decide_eq_decide.mpr (BitVec.toNat_inj.symm.trans ?_)
  rw [BitVec.toNat_ofInt, BitVec.toNat_zero]
  omega

/-- `Sub8` (R202) with its result and its flags read off the difference of integers. -/
theorem sub8_eq (a v : Byte) (cin : Bool) :
    sub8 a v cin =
      { res := BitVec.ofInt 8 ((a.toNat : Int) - v.toNat - bitNat cin)
        flags :=
          { z := decide (((a.toNat : Int) - v.toNat - bitNat cin) % 256 = 0)
            n := true
            h := decide (a.toNat % 16 < v.toNat % 16 + bitNat cin)
            c := decide (a.toNat < v.toNat + bitNat cin) } } := by
  have res : a - v - BitVec.ofNat 8 (bitNat cin) = BitVec.ofInt 8 ((a.toNat : Int) - v.toNat - bitNat cin) := by
    simp only [Int.sub_eq_add_neg, BitVec.ofInt_add, BitVec.ofInt_neg, BitVec.ofInt_natCast, BitVec.ofNat_toNat,
      BitVec.setWidth_eq, BitVec.sub_eq_add_neg]
  simp only [sub8, lowNibble_eq_mod, res, ofInt_beq_zero]

/-- DEC of a byte (R214): taking one away gives zero where the byte was 1, and borrows into bit 4 where the low nibble was 0. -/
theorem decOut_eq (v : Byte) (f : Flags) :
    decOut v f =
      { res := v - 1#8, flags := { z := v == 0x01#8, n := true, h := decide (v.toNat % 16 = 0), c := f.c } } := by
  have res : v - 1#8 - BitVec.ofNat 8 (bitNat false) = v - 1#8 := BitVec.sub_zero _
  have zero : v - 1#8 = 0#8 ↔ v = 0x01#8 := by bv_omega
  have half : v.toNat % 16 < 1 ↔ v.toNat % 16 = 0 := by omega
  simp only [decOut, sub8, lowNibble_eq_mod, res, beq_eq_decide, zero]
  simp [bitNat, half]

/-- Settles O23: SUB, SBC and CP are `Sub8` with the carry clear or with the old carry, and CP gives back `A`. -/
theorem subtractAndCompare : Obligations.SubtractAndCompare := by
  unfold Obligations.SubtractAndCompare
  intro s v diff p listed
  obtain ⟨cin, subtracts, carry⟩ : ∃ cin,
      aluOut p.1 s.regs.a v s.flags.c =
        { sub8 s.regs.a v cin with res := if p.2.2 then s.regs.a else (sub8 s.regs.a v cin).res } ∧
      p.2.1 = bitNat cin := by
    fin_cases listed
    exacts [⟨false, rfl, rfl⟩, ⟨s.flags.c, rfl, rfl⟩, ⟨false, rfl, rfl⟩]
  refine exec_alu_sources s p.1 v fun u regs flags => ?_
  simp only [diff, carry, accumulate, State.setR8, State.setFlags, regs, flags, subtracts, sub8_eq]

/-- Settles O24: AND, XOR and OR are their operation and the flags of `logicOut` from each of the three sources; the three
flag operations compute on `A` and the flags alone. -/
theorem bitwiseLogic : Obligations.BitwiseLogic := by
  unfold Obligations.BitwiseLogic
  intro s v
  have complement : ~~~s.regs.a = s.regs.a ^^^ 0xFF#8 := BitVec.xor_allOnes.symm
  rw [← complement]
  refine ⟨rfl, rfl, rfl, fun p listed => ?_⟩
  intro t
  have out : aluOut p.1 s.regs.a v s.flags.c = logicOut p.2.1 p.2.2 := by fin_cases listed <;> rfl
  have accumulates (u : State) (regs : u.regs = s.regs) (flags : u.flags = s.flags) : accumulate p.1 v u = t u := by
    simp only [accumulate, State.setR8, State.setFlags, regs, flags, out, logicOut, t]
  obtain ⟨⟨_, imm, rfl⟩, reg, read, refused⟩ :=
    exec_alu_sources s p.1 v (result := fun u t' => t' = t u) accumulates
  refine ⟨imm, fun r source => ?_, fun can source => ?_, refused⟩
  · obtain ⟨_, run, rfl⟩ := reg r source
    exact run
  · obtain ⟨_, run, rfl⟩ := read can source
    exact run

/-- Settles O26: DEC writes its operand back one less, with the flags of `decOut_eq`. -/
theorem decrementByte : Obligations.DecrementByte := by
  unfold Obligations.DecrementByte
  intro s flags
  have out (v : Byte) : decOut v s.flags = { res := v - 1#8, flags := flags v } := decOut_eq v s.flags
  refine ⟨fun r => ?_, fun can stores => ?_, fun refused => ?_⟩
  · rw [exec_dec8, s.modify_reg, out]
  · rw [exec_dec8, s.modify_mHL_of_canWrite decOut can (by rwa [out]), out]
  · rw [exec_dec8, s.modify_mHL_of_refused decOut (by rwa [out])]

/-! DAA. -/

/-- DAA with its two tests over natural numbers and its adjustment as one number (R216). -/
theorem daaOut_eq (a : Byte) (f : Flags) :
    let low : Bool := f.h || (!f.n && decide (a.toNat % 16 > 9))
    let high : Bool := f.c || (!f.n && decide (a.toNat > 0x99))
    let adj : Byte := BitVec.ofNat 8 ((if low then 0x06 else 0) + (if high then 0x60 else 0))
    let res : Byte := if f.n then a - adj else a + adj
    daaOut a f = { res := res, flags := { z := res == 0#8, n := f.n, h := false, c := high } } := by
  intro low high adj res
  have hlow : daaLow a f = low := by simp only [daaLow, lowNibble_eq_mod, low]
  have hhigh : daaHigh a f = high := rfl
  have hadj : (if low then 0x06#8 else 0x00#8) + (if high then 0x60#8 else 0x00#8) = adj := by
    cases hl : low <;> cases hh : high <;> simp [adj, hl, hh]
  simp only [daaOut, hlow, hhigh, hadj]
  rfl

/-- The two decimal digits of a number below 100, one in each nibble. -/
def bcd (n : Nat) : Byte := BitVec.ofNat 8 (n / 10 * 16 + n % 10)

theorem toNat_bcd {n : Nat} (digits : n < 100) : (bcd n).toNat = n / 10 * 16 + n % 10 := by
  rw [bcd, BitVec.toNat_ofNat]
  omega

/-- The two tests of DAA after a decimal addition (R216): whether the low digits, and the numbers, have a decimal carry. -/
theorem daa_tests_of_add8_bcd {x y : Nat} (hx : x < 100) (hy : y < 100) (cin : Bool) :
    let o := add8 (bcd x) (bcd y) cin
    daaLow o.res o.flags = decide (10 ≤ x % 10 + y % 10 + bitNat cin) ∧
      daaHigh o.res o.flags = decide (100 ≤ x + y + bitNat cin) := by
  have carry : bitNat cin ≤ 1 := by cases cin <;> decide
  have bytes : 154 ≤ x / 10 * 16 + x % 10 + (y / 10 * 16 + y % 10) + bitNat cin ↔ 100 ≤ x + y + bitNat cin := by omega
  have bound : x / 10 * 16 + x % 10 + (y / 10 * 16 + y % 10) + bitNat cin ≤ 307 := by omega
  simp only [daaLow, daaHigh, lowNibble_eq_mod, add8_eq, BitVec.toNat_ofNat, toNat_bcd hx, toNat_bcd hy, Bool.not_false,
    Bool.true_and, ← Bool.decide_or]
  refine ⟨decide_eq_decide.mpr (by omega), decide_eq_decide.mpr (bytes.symm.trans ?_).symm⟩
  generalize x / 10 * 16 + x % 10 + (y / 10 * 16 + y % 10) + bitNat cin = sum at bound ⊢
  omega

/-- Decimal addition (R216): the digits of the sum, and the carry out of the two digits. -/
theorem daaOut_add8_bcd {x y : Nat} (hx : x < 100) (hy : y < 100) (cin : Bool) :
    let o := add8 (bcd x) (bcd y) cin
    (daaOut o.res o.flags).res = bcd ((x + y + bitNat cin) % 100) ∧
      (daaOut o.res o.flags).flags.c = decide (100 ≤ x + y + bitNat cin) := by
  have carry : bitNat cin ≤ 1 := by cases cin <;> decide
  intro o
  obtain ⟨low, high⟩ : daaLow o.res o.flags = _ ∧ daaHigh o.res o.flags = _ := daa_tests_of_add8_bcd hx hy cin
  have adds : o.flags.n = false := rfl
  have sum : o.res.toNat = (x / 10 * 16 + x % 10 + (y / 10 * 16 + y % 10) + bitNat cin) % 256 := by
    rw [← toNat_bcd hx, ← toNat_bcd hy]
    exact BitVec.toNat_ofNat _ _
  refine ⟨?_, high⟩
  rw [daaOut, low, high, adds]
  refine BitVec.eq_of_toNat_eq ?_
  rw [toNat_bcd (Nat.mod_lt _ (by decide))]
  by_cases low_carry : 10 ≤ x % 10 + y % 10 + bitNat cin <;> by_cases high_carry : 100 ≤ x + y + bitNat cin <;>
    simp [low_carry, high_carry, sum] <;> omega

/-- Settles O27: DAA is `daaOut_eq`, and after ADC of two decimal numbers its two adjustments are their decimal carries. -/
theorem decimalAdjust : Obligations.DecimalAdjust := by
  unfold Obligations.DecimalAdjust
  refine ⟨fun s => ?_, fun s x y hx hy => ?_⟩
  · intro low high adj res
    have out : daaOut s.regs.a s.flags = { res := res, flags := { z := res == 0#8, n := s.flags.n, h := false, c := high } } :=
      daaOut_eq s.regs.a s.flags
    have run : exec .daa s = s.modifyA daaOut := rfl
    rw [run, State.modifyA, out]
    rfl
  · intro digits total operand
    obtain ⟨res, c⟩ := daaOut_add8_bcd hx hy s.flags.c
    have hx' : s.regs.a = bcd x := operand
    rw [← hx'] at res c
    exact ⟨_, _, exec_aluImm s .adc (bcd y), rfl, res, c⟩

end Sys2Proof.Machine
end

section
/-! SUPPORT. The 16-bit sums (43_alu16.md R241, R246) with their carries over natural numbers. -/
namespace Sys2Proof.Machine

theorem toNat_and_0FFF (v : Word) : (v &&& 0x0FFF#16).toNat = v.toNat % 4096 := by
  rw [BitVec.toNat_and]
  exact Nat.and_two_pow_sub_one_eq_mod v.toNat 12

theorem add_eq_ofNat_mod (v w : Word) : v + w = BitVec.ofNat 16 ((v.toNat + w.toNat) % 65536) := by
  refine BitVec.eq_of_toNat_eq ?_
  rw [BitVec.toNat_add, BitVec.toNat_ofNat, Nat.mod_mod]

/-- Settles O28: the sum of ADD HL and its two carries are those of natural numbers. -/
theorem wordArithmetic : Obligations.WordArithmetic := by
  unfold Obligations.WordArithmetic
  intro s r
  refine ⟨?_, exec_inc16 s r, exec_dec16 s r⟩
  rw [exec_addHL, addToHL, add_eq_ofNat_mod, addHlFlags, toNat_and_0FFF, toNat_and_0FFF]

/-- A sum XOR its two terms gives the carries into each bit. -/
theorem getLsbD_xor_add {w : Nat} (x y : BitVec w) {i : Nat} (bit : i < w) :
    (x ^^^ y ^^^ (x + y)).getLsbD i = decide (2 ^ i ≤ x.toNat % 2 ^ i + y.toNat % 2 ^ i) := by
  have carry : BitVec.carry i x y false = decide (2 ^ i ≤ x.toNat % 2 ^ i + y.toNat % 2 ^ i) := by
    simp [BitVec.carry]
  rw [BitVec.getLsbD_xor, BitVec.getLsbD_xor, BitVec.getLsbD_add bit, ← carry]
  cases x.getLsbD i <;> cases y.getLsbD i <;> cases BitVec.carry i x y false <;> rfl

/-- Below bit 8 the sign extension is the byte. -/
theorem toNat_sext16_mod : ∀ e : Byte, (sext16 e).toNat % 16 = e.toNat % 16 ∧ (sext16 e).toNat % 256 = e.toNat := by
  decide

/-- The flags of `SpAdd` are the carries of the unsigned addition of the byte to the low byte of `SP` (R246). -/
theorem spAddFlags_carries (sp : Word) (e : Byte) :
    (spAddFlags sp e).h = decide (sp.toNat % 16 + e.toNat % 16 > 0x0F) ∧
      (spAddFlags sp e).c = decide (sp.toNat % 256 + e.toNat > 0xFF) := by
  obtain ⟨low4, low8⟩ := toNat_sext16_mod e
  rw [spAddFlags_eq, spAdd]
  dsimp only
  rw [getLsbD_xor_add sp (sext16 e) (by decide), getLsbD_xor_add sp (sext16 e) (by decide)]
  exact ⟨decide_eq_decide.mpr (by omega), decide_eq_decide.mpr (by omega)⟩

/-- Settles O30: both instructions write the flags of `SpAdd`. -/
theorem signedAddCarriesAreUnsigned : Obligations.SignedAddCarriesAreUnsigned := by
  unfold Obligations.SignedAddCarriesAreUnsigned
  intro s t e ran
  have flags : t.flags = spAddFlags s.sp e := by
    obtain run | run := ran
    · cases run; rfl
    · cases run; rfl
  rw [flags]
  exact spAddFlags_carries s.sp e

end Sys2Proof.Machine
end

section
/-! SUPPORT. The rotates and shifts (44_rotate_shift_bit.md R261) on the number of the byte. -/
namespace Sys2Proof.Machine

/-- The result of each, on the byte's number; `cin` is the carry as 0 or 1. -/
def rotNat (k : RotOp) (v cin : Nat) : Nat :=
  match k with
  | .rlc => v % 128 * 2 + v / 128
  | .rrc => v % 2 * 128 + v / 2
  | .rl => v % 128 * 2 + cin
  | .rr => cin * 128 + v / 2
  | .sla => v % 128 * 2
  | .sra => v / 128 * 128 + v / 2
  | .swap => v % 16 * 16 + v / 16
  | .srl => v / 2

/-- The bit that each shifts out: the top bit, the low bit or, for SWAP, none. -/
def rotCarryNat (k : RotOp) (v : Nat) : Nat :=
  match k with
  | .rlc | .rl | .sla => v / 128
  | .rrc | .rr | .sra | .srl => v % 2
  | .swap => 0

/-- The concatenations of `Rot_k` (R261) as arithmetic, for each function, byte and carry. -/
theorem rot_eq (k : RotOp) (v : Byte) (cin : Bool) :
    rot k v cin = (BitVec.ofNat 8 (rotNat k v.toNat (bitNat cin)), rotCarryNat k v.toNat == 1) := by
  revert v
  cases k <;> cases cin <;> decide

/-- Settles O31: the 0xCB forms are `rotOut` on the operand, the accumulator forms `rotAccOut` on `A`. -/
theorem rotatesAndShifts : Obligations.RotatesAndShifts := by
  unfold Obligations.RotatesAndShifts
  intro s k top low cin res out flags
  have hres (v : Byte) : res v = (rot k v s.flags.c).1 := by rw [rot_eq]; cases k <;> rfl
  have hout (v : Byte) : (out v == 1) = (rot k v s.flags.c).2 := by rw [rot_eq]; cases k <;> rfl
  have rotates (v : Byte) : rotOut k v s.flags = { res := res v, flags := flags v } := by
    simp only [rotOut, flags, hout, hres]
  refine ⟨fun r => ?_, fun can stores => ?_, fun refused => ?_, fun p listed same => ?_⟩
  · rw [exec_rotOf, s.modify_reg, rotates]
  · rw [exec_rotOf, s.modify_mHL_of_canWrite (rotOut k) can (by rwa [rotates]), rotates]
  · rw [exec_rotOf, s.modify_mHL_of_refused (rotOut k) (by rwa [rotates])]
  · have run : exec p.2 s = s.modifyA (rotAccOut k) := by
      rw [← same]
      fin_cases listed <;> rfl
    rw [run, State.modifyA, rotAccOut, rotates]

end Sys2Proof.Machine
end

section
/-! SUPPORT. The two stack bytes (00_scope.md R12, D31): what follows a push and a pop in each case of their two accesses, and
the instructions that push or pop. -/
namespace Sys2Proof.Machine

namespace State

variable (s : State) {α : Type}

/-- Whatever is done after a push: with both stores taken, with the first refused, with the second refused. -/
theorem push16_andThen (v : Word) (f : State → Result α) :
    (s.canWrite (s.sp - 1#16) (hiByte v) = true → (s.pushedHigh v).canWrite (s.sp - 2#16) (loByte v) = true →
      (s.push16 v).andThen f = f (s.pushed v)) ∧
    (s.canWrite (s.sp - 1#16) (hiByte v) = false → (s.push16 v).andThen f = .fault (.addressingError (s.sp - 1#16))) ∧
    (s.canWrite (s.sp - 1#16) (hiByte v) = true → (s.pushedHigh v).canWrite (s.sp - 2#16) (loByte v) = false →
      (s.push16 v).andThen f = .fault (.addressingError (s.sp - 2#16))) := by
  rw [push16_eq]
  refine ⟨fun high low => ?_, fun high => ?_, fun high low => ?_⟩ <;> simp [*]

/-- Whatever is done after a pop: with both reads answered, with the first refused, with the second refused. -/
theorem pop16_andThen (f : Word × State → Result α) :
    (s.canRead s.sp = true → (s.afterRead s.sp).canRead (s.sp + 1#16) = true →
      s.pop16.andThen f =
        f (word16 ((s.afterRead s.sp).busRead (s.sp + 1#16)) (s.busRead s.sp),
          (s.afterReads [s.sp, s.sp + 1#16]).setSp (s.sp + 2#16))) ∧
    (s.canRead s.sp = false → s.pop16.andThen f = .fault (.addressingError s.sp)) ∧
    (s.canRead s.sp = true → (s.afterRead s.sp).canRead (s.sp + 1#16) = false →
      s.pop16.andThen f = .fault (.addressingError (s.sp + 1#16))) := by
  rw [pop16_eq]
  refine ⟨fun low high => ?_, fun low => ?_, fun low high => ?_⟩ <;> simp [*]

theorem push16_andThen_next (v : Word) : (s.push16 v).andThen .next = s.push16 v := by cases s.push16 v <;> rfl

end State

/-- Settles O20: PUSH is a push and nothing more, POP a pop and then the write of the pair. -/
theorem pushAndPop : Obligations.PushAndPop := by
  unfold Obligations.PushAndPop
  intro s q first
  rw [exec_pushOf, exec_popOf, ← State.push16_andThen_next]
  obtain ⟨pushes, refusedHigh, refusedLow⟩ := s.push16_andThen (s.getStk q) .next
  obtain ⟨pops, refusedFirst, refusedSecond⟩ := s.pop16_andThen fun p => .next (p.2.setStk q p.1)
  exact ⟨pushes, refusedHigh, refusedLow, pops, refusedFirst, refusedSecond⟩

/-- Settles O34: each is a push of the pc and then the jump. -/
theorem callsAndRestarts : Obligations.CallsAndRestarts := by
  unfold Obligations.CallsAndRestarts
  intro s first entered call
  have calls (i : Instr) (a : Word) (run : exec i s = Machine.call a s) : call i a := by
    simp only [call, run]
    exact s.push16_andThen s.pc fun t => .next (t.setPc a)
  refine ⟨fun a => calls _ a rfl, fun k a holds => calls _ a ?_, fun k a fails => ?_, fun p listed => calls _ _ ?_⟩
  · rw [exec_callCond, callIf, if_pos holds]
  · rw [exec_callCond, callIf, if_neg (by simp [fails])]
  · fin_cases listed <;> rfl

/-- Settles O35: each is a pop and then the jump, RETI with IME set besides. -/
theorem returns : Obligations.Returns := by
  unfold Obligations.Returns
  intro s read popped returns
  have pops (i : Instr) (f : Word × State → State) (run : exec i s = s.pop16.andThen fun p => .next (f p)) :
      returns i (f (word16 (read.busRead (s.sp + 1#16)) (s.busRead s.sp),
        (s.afterReads [s.sp, s.sp + 1#16]).setSp (s.sp + 2#16))) := by
    simp only [returns, run]
    exact s.pop16_andThen fun p => .next (f p)
  refine ⟨pops .ret (fun p => p.2.setPc p.1) rfl, pops .reti (fun p => { p.2 with pc := p.1, ime := true }) rfl,
    fun k holds => pops (.retCond k) (fun p => p.2.setPc p.1) ?_, fun k fails => ?_⟩
  · rw [exec_retCond, retIf, if_pos holds]
    rfl
  · rw [exec_retCond, retIf, if_neg (by simp [fails])]

/-- Settles O41: the trap entry is a push of the pc, with the request and IME cleared before, and then the jump. -/
theorem trapEntry : Obligations.TrapEntry := by
  unfold Obligations.TrapEntry
  intro s k cleared first t
  obtain ⟨pushes, refusedHigh, refusedLow⟩ := cleared.push16_andThen s.pc fun t => .next (t.setPc k.vector)
  have stores : cleared.storesOnly (cleared.pushed s.pc) [s.sp - 1#16, s.sp - 2#16] := cleared.storesOnly_pushed s.pc
  have same : cleared.sameControl (cleared.pushed s.pc) := cleared.sameControl_pushed s.pc
  obtain ⟨ime, imePending, halted, hq, irqIn, params⟩ := same
  exact ⟨fun high low => ⟨pushes high low, cleared.pushed_regs s.pc, cleared.pushed_flags s.pc, halted, hq, imePending, ime,
    irqIn, params, stores⟩, refusedHigh, refusedLow⟩

/-- Settles O19: the two stores of LD (a16),SP come one after the other in the argument's order. -/
theorem loadWord : Obligations.LoadWord := by
  unfold Obligations.LoadWord
  intro s r w a order first
  have pair : s.params.immOrder.pair (loByte s.sp) (hiByte s.sp) = order := rfl
  have run : exec (.ld_ma16_SP a) s = (s.memWrite a order.1).andThen fun t => t.memWrite (a + 1#16) order.2 := by
    rw [← pair]
    rfl
  refine ⟨exec_ld16Imm s r w, rfl, fun one two => ?_, fun one => ?_, fun one two => ?_⟩
  · rw [run, s.memWrite_of_canWrite one, Result.andThen_next, State.memWrite_of_canWrite _ two]
  · rw [run, s.memWrite_of_refused one, Result.andThen_fault]
  · rw [run, s.memWrite_of_canWrite one, Result.andThen_next, State.memWrite_of_refused _ two]

end Sys2Proof.Machine
end

section
/-! SUPPORT. A pop after a push, where the two stack bytes are plain memory. -/
namespace Sys2Proof.Machine

namespace State

variable {s : State} {a b : Word}

/-! An access to plain memory raises nothing and reaches the stored byte alone. -/

theorem plainRam.canRead (plain : s.plainRam a) : s.canRead a = true := by
  obtain ⟨owned, reads, -⟩ := plain
  simp [State.canRead, owned, Ext.refusesRead, reads]

theorem plainRam.canWrite (plain : s.plainRam a) (v : Byte) : s.canWrite a v = true := by
  obtain ⟨owned, -, writes⟩ := plain
  simp [State.canWrite, owned, Ext.refusesWrite, writes]

theorem plainRam.busRead (plain : s.plainRam a) : s.busRead a = s.ext.mem.read a.toNat := by
  obtain ⟨owned, reads, -⟩ := plain
  simp [State.busRead, owned, Ext.read, reads]

theorem plainRam.afterRead (plain : s.plainRam a) : s.afterRead a = s :=
  s.afterRead_of_kind (by rw [plain.2.1]; decide)

/-- The state with other stored bytes. -/
def withMem (s : State) (m : Memory) : State := { s with ext := { s.ext with mem := m } }

theorem plainRam.busWrite (plain : s.plainRam a) (v : Byte) :
    s.busWrite a v = s.withMem (s.ext.mem.write a.toNat v) := by
  obtain ⟨owned, -, writes⟩ := plain
  simp [State.busWrite, owned, Ext.write, writes, withMem]

/-- The stored bytes say nothing about how an address answers. -/
theorem plainRam.withMem (plain : s.plainRam a) (m : Memory) : (s.withMem m).plainRam a := plain

section push

variable (s) (v : Word)

/-- The stored bytes after a push to plain memory. -/
def pushedMem : Memory :=
  (s.ext.mem.write (s.sp - 1#16).toNat (hiByte v)).write (s.sp - 2#16).toNat (loByte v)

/-- Both bytes read back: the low one, stored last, does not overwrite the high one. -/
theorem read_pushedMem (canonical : s.ext.mem.wf = true) :
    Memory.read (s.pushedMem v) (s.sp - 2#16).toNat = loByte v ∧ Memory.read (s.pushedMem v) (s.sp - 1#16).toNat = hiByte v := by
  obtain ⟨canonical', stored, -⟩ := Memory.write_word canonical (s.sp - 1#16) (hiByte v)
  obtain ⟨-, stored', other⟩ := Memory.write_word canonical' (s.sp - 2#16) (loByte v)
  exact ⟨stored', (other _ (by bv_omega)).trans stored⟩

variable {s} (high : s.plainRam (s.sp - 1#16)) (low : s.plainRam (s.sp - 2#16))

include high low

theorem pushed_of_plainRam : s.pushed v = (s.withMem (s.pushedMem v)).setSp (s.sp - 2#16) := by
  rw [pushed, pushedHigh, high.busWrite, (low.withMem _).busWrite]
  rfl

theorem push16_of_plainRam : s.push16 v = .next (s.pushed v) := by
  refine push16_eq_next.mpr ⟨high.canWrite _, ?_, rfl⟩
  rw [pushedHigh, high.busWrite]
  exact (low.withMem _).canWrite _

/-- A pop after the push gives the word and the old `SP`, whatever pc the machine went to in between. -/
theorem pop16_pushed (canonical : s.ext.mem.wf = true) (pc : Word) :
    ((s.pushed v).setPc pc).pop16 = .next (v, ((s.withMem (s.pushedMem v)).setPc pc).setSp s.sp) := by
  obtain ⟨read_low, read_high⟩ := read_pushedMem s v canonical
  have next : s.sp - 2#16 + 1#16 = s.sp - 1#16 := by bv_omega
  have back : s.sp - 2#16 + 2#16 = s.sp := by bv_omega
  rw [pushed_of_plainRam v high low]
  generalize ht : (setSp (s.withMem (s.pushedMem v)) (s.sp - 2#16)).setPc pc = t
  have sp : t.sp = s.sp - 2#16 := by rw [← ht]; rfl
  have plain_low : t.plainRam (s.sp - 2#16) := by rw [← ht]; exact low
  have plain_high : t.plainRam (s.sp - 1#16) := by rw [← ht]; exact high
  have mem : t.ext.mem = s.pushedMem v := by rw [← ht]; rfl
  refine pop16_eq_next.mpr ?_
  rw [sp, next, back]
  simp only [afterReads, plain_low.afterRead, plain_high.afterRead, plain_low.canRead, plain_high.canRead, plain_low.busRead,
    plain_high.busRead, mem, read_low, read_high, word16_hi_lo, true_and]
  rw [← ht]
  rfl

end push

/-! A pair of the stack instructions keeps what is written, apart from the others. -/

theorem getStk_setStk_of_ne (s : State) (v : Word) {q q' : Stk16} (other : q' ≠ q) :
    (s.setStk q v).getStk q' = s.getStk q' := by
  cases q with
  | bc =>
    cases q'
    case bc => exact absurd rfl other
    all_goals rfl
  | de =>
    cases q'
    case de => exact absurd rfl other
    all_goals rfl
  | hl =>
    cases q'
    case hl => exact absurd rfl other
    all_goals rfl
  | af =>
    cases q'
    case af => exact absurd rfl other
    all_goals rfl

theorem getStk_setStk (s : State) (v : Word) (q : Stk16) (hp : q = .af → s.params.flagBits.wf = true) :
    (s.setStk q v).getStk q = if q = .af then v &&& 0xFFF0#16 else v := by
  cases q with
  | af => exact s.af_setAF v (hp rfl)
  | bc | de | hl => exact word16_hi_lo v

theorem setStk_sp_pc (s : State) (v : Word) (q : Stk16) : (s.setStk q v).sp = s.sp ∧ (s.setStk q v).pc = s.pc := by
  cases q <;> exact ⟨rfl, rfl⟩

end State

/-- Settles O21: after the push the pop answers the word and the old `SP`, and writes it to its pair. -/
theorem popUndoesPush : Obligations.PopUndoesPush := by
  unfold Obligations.PopUndoesPush
  intro s q q' canonical high low admissible
  let v := s.getStk q
  let u : State := s.withMem (s.pushedMem v)
  have popped : (s.pushed v).pop16 = .next (v, u.setSp s.sp) := by
    have here : (s.pushed v).setPc s.pc = s.pushed v := by
      rw [← s.pushed_pc v]
      rfl
    rw [← here, State.pop16_pushed v high low canonical]
    rfl
  have values (r : Stk16) : u.getStk r = s.getStk r := by cases r <;> rfl
  obtain ⟨sp, pc⟩ := u.setStk_sp_pc v q'
  refine ⟨s.pushed v, u.setStk q' v, ?_, ?_, u.getStk_setStk v q' admissible, sp, pc, fun r other => ?_⟩
  · rw [exec_pushOf, State.push16_of_plainRam v high low]
  · rw [exec_popOf, pop, popped]
    rfl
  · rw [u.getStk_setStk_of_ne v other, values]

theorem Irq.index_injective : Function.Injective Irq.index := by
  intro j k same
  revert same
  cases j <;> cases k <;> decide

/-- Settles O42: RETI pops the pc that the trap entry pushed, and neither has touched more than IME, the one request and the two
stack bytes. -/
theorem retiUndoesTrapEntry : Obligations.RetiUndoesTrapEntry := by
  unfold Obligations.RetiUndoesTrapEntry
  intro s k canonical high low
  let u : State := { s with ifl := s.ifl &&& ~~~k.bit, ime := false }
  have served : s.service k = .next ((u.pushed s.pc).setPc k.vector) := by
    rw [State.service, State.push16_of_plainRam (s := u) s.pc high low, Result.andThen_next]
  have popped := State.pop16_pushed (s := u) s.pc high low canonical k.vector
  have returned : exec .reti ((u.pushed s.pc).setPc k.vector) =
      .next { u.withMem (u.pushedMem s.pc) with ime := true } := by
    have run : exec .reti ((u.pushed s.pc).setPc k.vector) = State.returnFromInterrupt ((u.pushed s.pc).setPc k.vector) := rfl
    rw [run, State.returnFromInterrupt, popped]
    rfl
  have requests (i : Nat) (bit : i < 5) : u.ifl.getLsbD i = (s.ifl.getLsbD i && !decide (i = k.index)) := by
    rw [BitVec.getLsbD_and, BitVec.getLsbD_not, k.getLsbD_bit, decide_eq_true bit, Bool.true_and]
  refine ⟨_, _, served, returned, rfl, rfl, rfl, rfl, rfl, rfl, rfl, rfl, ?_, fun j other => ?_⟩
  · exact (requests k.index k.index_lt).trans (by simp)
  · have apart : j.index ≠ k.index := fun same => other (Irq.index_injective same)
    exact (requests j.index j.index_lt).trans (by simp [apart])

end Sys2Proof.Machine
end

section
/-! SUPPORT. The jumps with their report (45_control_flow.md R300 to R305), DI, EI and STOP (46_cpu_control.md R332 to R334), and
the cycle table (70_reset_and_hazards.md R470). -/
namespace Sys2Proof.Machine

/-- A relative target is the sum of integers modulo 65536 (R304). -/
theorem relative_eq_ofInt (s : State) (e : Byte) : relative s e = BitVec.ofInt 16 (s.pc.toNat + e.toInt) := by
  rw [relative, sext16_eq_ofInt, BitVec.ofInt_add, BitVec.ofInt_natCast, BitVec.ofNat_toNat, BitVec.setWidth_eq]

theorem jumpIf_eq (k : Cond) (a : Word) (s : State) :
    jumpIf k a s = { s with pc := if condHolds k s.flags then a else s.pc } := by
  rw [jumpIf]
  split_ifs <;> rfl

/-! The report is the condition of the instruction (R300). -/

section taken

variable (k : Cond) (f : Flags)

theorem taken_of_cond {i : Instr} (cond : Instr.cond? i = some k) : taken i f = condHolds k f := by
  rw [taken, cond]

theorem taken_jpCond (a : Word) : taken (.jpCond k a) f = condHolds k f :=
  taken_of_cond k f (by cases k <;> dsimp only [Instr.cond?, Instr.jpCond, Instr.opcode] <;> decide)

theorem taken_jrCond (e : Byte) : taken (.jrCond k e) f = condHolds k f :=
  taken_of_cond k f (by cases k <;> dsimp only [Instr.cond?, Instr.jrCond, Instr.opcode] <;> decide)

theorem taken_callCond (a : Word) : taken (.callCond k a) f = condHolds k f :=
  taken_of_cond k f (by cases k <;> dsimp only [Instr.cond?, Instr.callCond, Instr.opcode] <;> decide)

theorem taken_retCond : taken (.retCond k) f = condHolds k f :=
  taken_of_cond k f (by cases k <;> decide)

end taken

/-- Settles O33: the jumps write the pc alone, and the conditional forms go by `condHolds`. -/
theorem jumps : Obligations.Jumps := by
  unfold Obligations.Jumps
  intro s k a e holds
  have condition : condHolds k s.flags = holds := rfl
  rw [exec_jpCond, exec_jrCond, jumpIf_eq, jumpIf_eq, relative_eq_ofInt, taken_jpCond, taken_jrCond, taken_callCond,
    taken_retCond, condition]
  have relative_jump : exec (.jr_e8 e) s = .next (s.setPc (relative s e)) := rfl
  exact ⟨rfl, rfl, by rw [relative_jump, relative_eq_ofInt]; rfl, rfl, rfl, rfl, rfl, rfl, rfl⟩

/-- Settles O37: EI and STOP go by their argument; the mark set before the step and still there sets IME. -/
theorem interruptEnablesAndStop : Obligations.InterruptEnablesAndStop := by
  unfold Obligations.InterruptEnablesAndStop
  intro s v
  have ei : exec .ei s = .next (enableInterrupts s) := rfl
  have stops : exec (.stop v) s = stop s := rfl
  rw [ei, stops]
  refine ⟨rfl, fun at_once => ?_, fun delayed => ?_, fun nop2 => ?_, fun refuse => ?_, fun fault => ?_, rfl, rfl, rfl⟩
  · simp [enableInterrupts, at_once]
  · simp [enableInterrupts, delayed]
  · simp [stop, nop2]
  · simp [stop, refuse]
  · simp [stop, fault]

/-! The cycle table. -/

/-- The count of the opcode bytes in the spec's table, taken. -/
def cyclesOf : Byte × Option Byte → Nat
  | (op, none) => cyclesTaken op
  | (_, some op2) => cyclesCB op2

/-- Opcode bytes with no condition and with this count in the spec's table. -/
def fixedCount (opcode : Byte × Option Byte) (n : Nat) : Bool :=
  cyclesOf opcode == n && (condOfOpcode opcode.1).isNone

theorem cycles_standard_taken (i : Instr) : cycles .standard i true = cyclesOf i.opcode := by
  unfold cycles cyclesOf
  rcases i.opcode with ⟨op, _ | op2⟩ <;> rfl

theorem fixedCount_iff {i : Instr} {n : Nat} (fixed : fixedCount i.opcode n = true) :
    cycles .standard i true = n ∧ ∀ f, taken i f = true := by
  simp only [fixedCount, Bool.and_eq_true, beq_iff_eq, Option.isNone_iff_eq_none] at fixed
  obtain ⟨count, unconditional⟩ := fixed
  exact ⟨(cycles_standard_taken i).trans count, fun f => by rw [taken, Instr.cond?, unconditional]⟩

/-- The byte 0xCB is the opcode byte of exactly the two-byte rows (R103). -/
theorem opcode_eq_0xCB_iff (i : Instr) : i.opcode.1 = 0xCB#8 ↔ i.opcode.2.isSome = true := by
  cases i <;> dsimp only [Instr.opcode] <;> decide

theorem cycles_given (i : Instr) (whenTaken whenNotTaken prefixed : List Nat) (t : Bool) :
    cycles (.given whenTaken whenNotTaken prefixed) i t =
      match encode i with
      | 0xCB#8 :: op2 :: _ => prefixed.getD op2.toNat 0
      | op :: _ => (if t then whenTaken else whenNotTaken).getD op.toNat 0
      | [] => 0 := by
  have isPrefix := opcode_eq_0xCB_iff i
  rcases opcode : i.opcode with ⟨op, _ | op2⟩
  all_goals rw [opcode] at isPrefix
  · have count : cycles (.given whenTaken whenNotTaken prefixed) i t =
        (if t then whenTaken else whenNotTaken).getD op.toNat 0 := by
      unfold cycles
      rw [opcode]
    have bytes : encode i = op :: i.immediate := by rw [encode, opcode]
    rw [count, bytes]
    generalize (if t then whenTaken else whenNotTaken) = counts
    split
    case h_1 same => exact absurd (isPrefix.mp (List.cons.inj same).1) Bool.false_ne_true
    case h_2 same => rw [(List.cons.inj same).1]
    case h_3 none => cases none
  · have count : cycles (.given whenTaken whenNotTaken prefixed) i t = prefixed.getD op2.toNat 0 := by
      unfold cycles
      rw [opcode]
    have bytes : encode i = op :: op2 :: i.immediate := by rw [encode, opcode]
    have same : op = 0xCB#8 := isPrefix.mpr rfl
    rw [count, bytes]
    cases same
    rfl

/-! The conditional forms, by their report (R470). -/

section conditional

variable (k : Cond) (t : Bool)

theorem cycles_jrCond (e : Byte) : cycles .standard (.jrCond k e) t = if t then 3 else 2 := by
  cases k <;> cases t <;> dsimp only [Instr.jrCond, cycles, Instr.opcode] <;> decide

theorem cycles_jpCond (a : Word) : cycles .standard (.jpCond k a) t = if t then 4 else 3 := by
  cases k <;> cases t <;> dsimp only [Instr.jpCond, cycles, Instr.opcode] <;> decide

theorem cycles_callCond (a : Word) : cycles .standard (.callCond k a) t = if t then 6 else 3 := by
  cases k <;> cases t <;> dsimp only [Instr.callCond, cycles, Instr.opcode] <;> decide

theorem cycles_retCond : cycles .standard (.retCond k) t = if t then 5 else 2 := by
  cases k <;> cases t <;> decide

end conditional

/-! The rows of the table with a fixed count: an operand byte is no part of the opcode. -/

section fixedRows

variable (r q : Reg8) (p : Reg16) (k : Stk16) (op : AluOp) (ro : RotOp) (b : BitNum) (n : RstTarget) (v : Byte) (a : Word)

theorem fixedCount_one : ∀ i ∈ [Instr.ld8 r.op q.op, .inc8 r.op, .dec8 r.op, .aluOf op r.op, .rlca, .rrca, .rla, .rra, .daa,
    .cpl, .scf, .ccf, .jp_HL, .nop, .halt, .di, .ei, .stop v], fixedCount i.opcode 1 = true := by
  simp only [List.forall_mem_cons, List.not_mem_nil, IsEmpty.forall_iff, implies_true, and_true]
  refine ⟨?_, ?_, ?_, ?_, rfl, rfl, rfl, rfl, rfl, rfl, rfl, rfl, rfl, rfl, rfl, rfl, rfl, ?_⟩
  · cases r <;> cases q <;> rfl
  · cases r <;> rfl
  · cases r <;> rfl
  · cases op <;> cases r <;> rfl
  · dsimp only [Instr.opcode]; decide

theorem fixedCount_two : ∀ i ∈ [Instr.ld8Imm r.op v, .ld8 r.op .mHL, .ld8 .mHL r.op, .aluOf op .mHL, .aluImm op v,
    .ld_mBC_A, .ld_mDE_A, .ld_mHLi_A, .ld_mHLd_A, .ld_A_mBC, .ld_A_mDE, .ld_A_mHLi, .ld_A_mHLd, .ldh_mC_A, .ldh_A_mC,
    .inc16 p, .dec16 p, .addHL p, .ld_SP_HL, .rotOf ro r.op, .bitOf b r.op, .resOf b r.op, .setOf b r.op],
    fixedCount i.opcode 2 = true := by
  simp only [List.forall_mem_cons, List.not_mem_nil, IsEmpty.forall_iff, implies_true, and_true]
  refine ⟨?_, ?_, ?_, ?_, ?_, rfl, rfl, rfl, rfl, rfl, rfl, rfl, rfl, rfl, rfl, ?_, ?_, ?_, rfl, ?_, ?_, ?_, ?_⟩
  · cases r <;> dsimp only [Instr.ld8Imm, Reg8.op, Instr.opcode] <;> decide
  · cases r <;> rfl
  · cases r <;> rfl
  · cases op <;> rfl
  · cases op <;> dsimp only [Instr.aluImm, Instr.opcode] <;> decide
  · cases p <;> rfl
  · cases p <;> rfl
  · cases p <;> rfl
  · cases ro <;> cases r <;> rfl
  · cases b <;> cases r <;> rfl
  · cases b <;> cases r <;> rfl
  · cases b <;> cases r <;> rfl

theorem fixedCount_three : ∀ i ∈ [Instr.ld8Imm .mHL v, .inc8 .mHL, .dec8 .mHL, .ld16Imm p a, .ldh_ma8_A v, .ldh_A_ma8 v,
    .popOf k, .jr_e8 v, .ld_HL_SPe8 v, .bitOf b .mHL], fixedCount i.opcode 3 = true := by
  simp only [List.forall_mem_cons, List.not_mem_nil, IsEmpty.forall_iff, implies_true, and_true]
  refine ⟨?_, rfl, rfl, ?_, ?_, ?_, ?_, ?_, ?_, ?_⟩
  · dsimp only [Instr.ld8Imm, Instr.opcode]; decide
  · cases p <;> dsimp only [Instr.ld16Imm, Instr.opcode] <;> decide
  · dsimp only [Instr.opcode]; decide
  · dsimp only [Instr.opcode]; decide
  · cases k <;> rfl
  · dsimp only [Instr.opcode]; decide
  · dsimp only [Instr.opcode]; decide
  · cases b <;> rfl

theorem fixedCount_four : ∀ i ∈ [Instr.ld_ma16_A a, .ld_A_ma16 a, .pushOf k, .jp_a16 a, .ret, .reti, .rstOf n,
    .add_SP_e8 v, .rotOf ro .mHL, .resOf b .mHL, .setOf b .mHL], fixedCount i.opcode 4 = true := by
  simp only [List.forall_mem_cons, List.not_mem_nil, IsEmpty.forall_iff, implies_true, and_true]
  refine ⟨?_, ?_, ?_, ?_, rfl, rfl, ?_, ?_, ?_, ?_, ?_⟩
  · dsimp only [Instr.opcode]; decide
  · dsimp only [Instr.opcode]; decide
  · cases k <;> rfl
  · dsimp only [Instr.opcode]; decide
  · cases n <;> rfl
  · dsimp only [Instr.opcode]; decide
  · cases ro <;> rfl
  · cases b <;> rfl
  · cases b <;> rfl

end fixedRows

/-- Settles O53: the rows with a fixed count, the conditional rows by their report, and a given table by the encoding. -/
theorem cycleCounts : Obligations.CycleCounts := by
  unfold Obligations.CycleCounts
  intro t r q p k cc op ro b n v a fixed
  have store : fixedCount (Instr.ld_ma16_SP a).opcode 5 = true := by dsimp only [Instr.opcode]; decide
  have call : fixedCount (Instr.call_a16 a).opcode 6 = true := by dsimp only [Instr.opcode]; decide
  exact ⟨fun i row => fixedCount_iff (fixedCount_one r q op v i row),
    fun i row => fixedCount_iff (fixedCount_two r p op ro b v i row),
    fun i row => fixedCount_iff (fixedCount_three p k b v a i row),
    fun i row => fixedCount_iff (fixedCount_four k ro b n v a i row), fixedCount_iff store, fixedCount_iff call,
    cycles_jrCond cc t v, cycles_jpCond cc t a, cycles_callCond cc t a, cycles_retCond cc t,
    fun i whenTaken whenNotTaken prefixed => cycles_given i whenTaken whenNotTaken prefixed t⟩

end Sys2Proof.Machine
end

section
/-! SUPPORT. The lockouts and the display, mask and timer-control registers on the bus (20_memory.md R68, R69, R72 to R78). -/
namespace Sys2Proof.Machine

section lockout

variable (s : State) (a : Word)

/-- The routing, as its parts: the lockout, then the block registers, then `Ext` (R63). -/
theorem owner_of_locked (locked : (s.vramLocked a || s.oamLocked a) = true) : s.owner a = .locked := by
  rw [State.owner, if_pos locked]

theorem owner_of_open {a : Word} (opened : (s.vramLocked a || s.oamLocked a) = false) (outside : a ∉ blockRegisters) :
    s.owner a = .ext := by
  simp only [blockRegisters, List.mem_cons, List.not_mem_nil, or_false, not_or] at outside
  simp [State.owner, opened, outside]

/-- Both lockouts need the display on, and each its range and modes (R68, R69). -/
theorem locked_eq : (s.vramLocked a || s.oamLocked a) =
    (s.lcd.lcdc.getLsbD 7 &&
      (((decide (0x8000 ≤ a.toNat) && decide (a.toNat ≤ 0x9FFF)) && decide (s.lcd.mode = .pixelTransfer)) ||
        ((decide (0xFE00 ≤ a.toNat) && decide (a.toNat ≤ 0xFE9F)) &&
          (decide (s.lcd.mode = .oamSearch) || decide (s.lcd.mode = .pixelTransfer))))) := by
  rw [State.vramLocked, State.oamLocked, State.displayOn]
  cases s.lcd.lcdc.getLsbD 7 <;> simp only [Bool.and_true, Bool.and_false, Bool.false_and, Bool.true_and, Bool.or_false]
  all_goals rfl

end lockout

/-- Settles O43: the lockout is the owner `locked`, which neither raises nor changes anything; without it and outside the block
registers the routing ends at `Ext`. -/
theorem videoMemoryLockout : Obligations.VideoMemoryLockout := by
  unfold Obligations.VideoMemoryLockout
  intro s a v vram oam locked
  have lockout : (s.vramLocked a || s.oamLocked a) = locked := locked_eq s a
  refine ⟨fun isLocked => ?_, fun isOpen => owner_of_open s (lockout.trans isOpen)⟩
  have owner := owner_of_locked s a (lockout.trans isLocked)
  simp [s.memRead_of_owner, s.memWrite_of_owner, State.busRead, State.busWrite, owner]

/-! The bits of STAT as a read gives them (R76). -/

theorem statBits_bits (l : Lcd) :
    let b : Byte := l.statBits.setWidth 8
    b.getLsbD 7 = false ∧ b.getLsbD 6 = l.enL ∧ b.getLsbD 5 = l.en2 ∧ b.getLsbD 4 = l.en1 ∧ b.getLsbD 3 = l.en0 ∧
      b.getLsbD 2 = l.lyMatch ∧ b.toNat % 4 = l.mode.number.toNat := by
  rw [Lcd.statBits]
  generalize l.enL = eL, l.en2 = e2, l.en1 = e1, l.en0 = e0, l.lyMatch = m, l.mode = mode
  revert eL e2 e1 e0 m
  cases mode <;> decide

/-- The five bits that TAC lacks (R72). -/
theorem setWidth_eq_zero_append (tac : BitVec 3) : tac.setWidth 8 = 0b00000#5 ++ tac := by
  revert tac; decide

/-! With 8 stored bits the mask of IE keeps a stored byte and adds nothing to a read one (D14). -/

theorem and_mask_eight (v : Byte) : v &&& 0xFF#8 = v := BitVec.and_allOnes

theorem or_not_mask_eight (v : Byte) : v ||| ~~~0xFF#8 = v := BitVec.or_zero

/-- Settles O45: each of the six addresses has its block register as owner, which neither raises nor reaches further. -/
theorem displayAndMaskRegisters : Obligations.DisplayAndMaskRegisters := by
  unfold Obligations.DisplayAndMaskRegisters
  intro s v
  have tac : s.owner 0xFF07#16 = .tac := s.owner_of_address rfl
  have ie : s.owner 0xFFFF#16 = .ie := s.owner_of_address rfl
  have lcdc : s.owner 0xFF40#16 = .lcdc := s.owner_of_address rfl
  have stat : s.owner 0xFF41#16 = .stat := s.owner_of_address rfl
  have ly : s.owner 0xFF44#16 = .ly := s.owner_of_address rfl
  have lyc : s.owner 0xFF45#16 = .lyc := s.owner_of_address rfl
  have lowBits : v.extractLsb' 0 3 = v.setWidth 3 := (BitVec.setWidth_eq_extractLsb' (by decide)).symm
  have mask : s.params.ieWidth = 8 → s.params.ieMask = 0xFF#8 := fun width => by rw [Params.ieMask, width]; rfl
  obtain ⟨b7, b6, b5, b4, b3, b2, mode⟩ := statBits_bits s.lcd
  have number : s.lcd.mode.number.toNat =
      match s.lcd.mode with
      | .hblank => 0
      | .vblank => 1
      | .oamSearch => 2
      | .pixelTransfer => 3 := by cases s.lcd.mode <;> rfl
  have same : s.lcd.lyMatch = decide (s.lcd.ly = s.lcd.lyc.toNat) := rfl
  simp only [s.memRead_of_owner, s.memWrite_of_owner, State.busRead, State.busWrite, tac, ie, lcdc, stat, ly, lyc, lowBits,
    setWidth_eq_zero_append, ne_eq, reduceCtorEq, not_false_eq_true, true_and, and_true]
  refine ⟨fun width => ?_, ⟨rfl, rfl⟩, _, rfl, b7, b6, b5, b4, b3, b2.trans same, mode.trans number⟩
  rw [mask width, and_mask_eight v, or_not_mask_eight s.ie]
  exact ⟨rfl, rfl⟩

end Sys2Proof.Machine
end

section
/-! SUPPORT. Frames of the 8-bit loads and stores (40_load8.md; 20_memory.md R64, R65): writes to the CPU's registers stay in
front of the bus, so an instruction reads and stores what its bus accesses do. -/
namespace Sys2Proof.Machine

namespace State

/-! Register writes change nothing behind the bus. -/

section registerWrites

variable (s : State)

theorem sameBehind_trans {s t u : State} (first : s.sameBehind t) (second : t.sameBehind u) : s.sameBehind u := by
  obtain ⟨ie, ifl, timer, lcd, ext, params⟩ := first
  obtain ⟨ie', ifl', timer', lcd', ext', params'⟩ := second
  exact ⟨ie'.trans ie, ifl'.trans ifl, timer'.trans timer, lcd'.trans lcd, ext'.trans ext, params'.trans params⟩

theorem sameBehind_setR8 (r : Reg8) (v : Byte) : s.sameBehind (s.setR8 r v) := by cases r <;> exact s.sameBehind_refl
theorem sameBehind_setR16 (r : Reg16) (v : Word) : s.sameBehind (s.setR16 r v) := by cases r <;> exact s.sameBehind_refl
theorem sameBehind_setStk (q : Stk16) (v : Word) : s.sameBehind (s.setStk q v) := by cases q <;> exact s.sameBehind_refl
theorem sameBehind_setHL (v : Word) : s.sameBehind (s.setHL v) := s.sameBehind_refl
theorem sameBehind_setFlags (f : Flags) : s.sameBehind (s.setFlags f) := s.sameBehind_refl
theorem sameBehind_setSp (v : Word) : s.sameBehind (s.setSp v) := s.sameBehind_refl
theorem sameBehind_setPc (v : Word) : s.sameBehind (s.setPc v) := s.sameBehind_refl

theorem storesOnly_of_sameBehind {s t u : State} {as : List Word} (stores : s.storesOnly t as) (behind : t.sameBehind u) :
    s.storesOnly u as := by
  have reads := busRead_of_sameBehind behind
  obtain ⟨ie, ifl, timer, lcd, ext, -⟩ := behind
  unfold storesOnly at stores ⊢
  simpa only [ie, ifl, timer, lcd, ext, reads] using stores

theorem sameRegsBut_of_regs {s t : State} (regs : t.regs = s.regs) (rs : List Reg8) : s.sameRegsBut t rs := by
  intro r away
  cases r <;> simp only [getR8, regs]

theorem sameRegsBut_setR8 (r : Reg8) (v : Byte) : s.sameRegsBut (s.setR8 r v) [r] := fun q away =>
  s.getR8_setR8_other r q v fun same => away (List.mem_singleton.mpr same)

theorem sameRegsBut_setHL (v : Word) : s.sameRegsBut (s.setHL v) [.h, .l] := by
  intro r away
  cases r
  case h | l => exact absurd (by decide) away
  all_goals rfl

theorem sameRegsBut_trans {s t u : State} {rs qs : List Reg8} (first : s.sameRegsBut t rs) (second : t.sameRegsBut u qs) :
    s.sameRegsBut u (rs ++ qs) := fun r away => by
  rw [List.mem_append, not_or] at away
  exact (second r away.2).trans (first r away.1)

end registerWrites

/-- Reading an operand is the reads that `operandReads` lists. -/
theorem readOp8_eq_next {s : State} {o : Operand8} {p : Byte × State} (read : s.readOp8 o = .next p) :
    p.2 = s.afterReads (s.operandReads o) := by
  rcases operand_cases o with rfl | ⟨r, rfl⟩
  · obtain ⟨-, rfl⟩ := memRead_eq_next.mp read
    rfl
  · rw [readOp8_reg] at read
    cases read
    rw [operandReads, if_neg r.op_ne_mHL]
    rfl

end State

/-- What a load into a register leaves: reads, and then the write of that register. -/
theorem load_frame (s : State) (as : List Word) (r : Reg8) (v : Byte) :
    let t := (s.afterReads as).setR8 r v
    t.flags = s.flags ∧ t.sp = s.sp ∧ t.pc = s.pc ∧ s.sameRegsBut t [r] ∧ s.sameControl t ∧ s.readsOnly t as :=
  ⟨by simp, by simp, by simp,
    State.sameRegsBut_trans (rs := []) (State.sameRegsBut_of_regs (s.afterReads_regs as) []) (State.sameRegsBut_setR8 _ r v),
    ((s.plain_afterReads as).trans (State.plain_setR8 _ r v)).2,
    State.readsOnly_afterReads (State.sameBehind_setR8 _ r v)⟩

/-- With a step of `HL` after the load, `H` and `L` are written as well (R156, R158). -/
theorem loadStep_frame {s t : State} {d : Word} (load : loadStep d s = .next t) :
    t.flags = s.flags ∧ t.sp = s.sp ∧ t.pc = s.pc ∧ s.sameRegsBut t [.a, .h, .l] ∧ s.sameControl t ∧
      s.readsOnly t [s.hl] := by
  have control := (plain_loadStep load).2
  obtain ⟨p, read, last⟩ := Result.andThen_eq_next.mp load
  obtain ⟨-, rfl⟩ := State.memRead_eq_next.mp read
  cases last
  obtain ⟨flags, sp, pc, regs, -, -⟩ := load_frame s [s.hl] .a (s.busRead s.hl)
  exact ⟨flags, sp, pc, State.sameRegsBut_trans regs (State.sameRegsBut_setHL _ _), control,
    State.readsOnly_afterReads (State.sameBehind_trans (State.sameBehind_setR8 _ _ _) (State.sameBehind_setHL _ _))⟩

theorem loadA_frame {s t : State} {a : Word} (load : s.loadA a = .next t) :
    t.flags = s.flags ∧ t.sp = s.sp ∧ t.pc = s.pc ∧ s.sameRegsBut t [.a] ∧ s.sameControl t ∧ s.readsOnly t [a] := by
  obtain ⟨p, read, last⟩ := Result.andThen_eq_next.mp load
  obtain ⟨-, rfl⟩ := State.memRead_eq_next.mp read
  cases last
  exact load_frame s [a] .a _

theorem ld8_reg_frame {s t : State} {k : Reg8} {o : Operand8} (load : exec (.ld8 k.op o) s = .next t) :
    t.flags = s.flags ∧ t.sp = s.sp ∧ t.pc = s.pc ∧ s.sameRegsBut t [k] ∧ s.sameControl t ∧
      s.readsOnly t (s.operandReads o) := by
  rw [exec_ld8 s k.op o fun both => k.op_ne_mHL both.1] at load
  obtain ⟨p, read, last⟩ := Result.andThen_eq_next.mp load
  rw [State.writeOp8_reg, State.readOp8_eq_next read] at last
  cases last
  exact load_frame s _ k p.1

/-- Settles O54: each load is the reads of its address and then register writes. -/
theorem loadFrame : Obligations.LoadFrame := by
  unfold Obligations.LoadFrame
  intro s t k o v a p listed answers
  simp only [List.mem_cons, List.not_mem_nil, or_false] at listed
  rcases listed with rfl | rfl | rfl | rfl | rfl | rfl | rfl | rfl | rfl
  · exact ld8_reg_frame answers
  · rw [exec_ld8Imm_reg] at answers
    cases answers
    exact load_frame s [] k v
  iterate 5
    · exact loadA_frame answers
  · exact loadStep_frame answers
  · exact loadStep_frame answers

/-- What a store leaves. -/
theorem memWrite_frame {s t : State} {a : Word} {v : Byte} (store : s.memWrite a v = .next t) :
    t.flags = s.flags ∧ t.sp = s.sp ∧ t.pc = s.pc ∧ s.sameRegsBut t [] ∧ s.sameControl t ∧ s.storesOnly t [a] := by
  obtain ⟨-, rfl⟩ := State.memWrite_eq_next.mp store
  exact ⟨by simp, by simp, by simp, State.sameRegsBut_of_regs (s.busWrite_regs a v) [], s.sameControl_busWrite a v,
    s.storesOnly_busWrite a v⟩

theorem storeStep_frame {s t : State} {d : Word} (store : storeStep d s = .next t) :
    t.flags = s.flags ∧ t.sp = s.sp ∧ t.pc = s.pc ∧ s.sameRegsBut t [.h, .l] ∧ s.sameControl t ∧ s.storesOnly t [s.hl] := by
  have control := (plain_storeStep store).2
  obtain ⟨u, write, last⟩ := Result.andThen_eq_next.mp store
  cases last
  obtain ⟨flags, sp, pc, regs, -, stores⟩ := memWrite_frame write
  exact ⟨flags, sp, pc, State.sameRegsBut_trans regs (State.sameRegsBut_setHL _ _), control,
    State.storesOnly_of_sameBehind stores (State.sameBehind_setHL _ _)⟩

/-- Settles O55: each store is one bus write at its address. -/
theorem storeFrame : Obligations.StoreFrame := by
  unfold Obligations.StoreFrame
  intro s t r v a p listed answers
  simp only [List.mem_cons, List.not_mem_nil, or_false] at listed
  rcases listed with rfl | rfl | rfl | rfl | rfl | rfl | rfl | rfl | rfl
  · rw [exec_ld8_mHL_reg] at answers
    exact memWrite_frame answers
  iterate 6
    · exact memWrite_frame answers
  · exact storeStep_frame answers
  · exact storeStep_frame answers

end Sys2Proof.Machine
end

section
/-! SUPPORT. Frames of the accumulator operations, BIT and the flag operations, and of the operations that write their operand
back (42_alu8.md, 44_rotate_shift_bit.md). -/
namespace Sys2Proof.Machine

namespace State

/-- After reads of these addresses, only `A` and the flags are written. -/
def WritesAccumulator (s t : State) (as : List Word) : Prop :=
  ∃ (v : Byte) (f : Flags), t = ((s.afterReads as).setR8 .a v).setFlags f

section WritesAccumulator

variable {s t : State} {as : List Word}

theorem writesAccumulator_setFlags (f : Flags) : s.WritesAccumulator ((s.afterReads as).setFlags f) as :=
  ⟨(s.afterReads as).getR8 .a, f, by rw [setR8_getR8]⟩

theorem writesAccumulator_accumulate (op : AluOp) (v : Byte) : s.WritesAccumulator (accumulate op v (s.afterReads as)) as :=
  ⟨_, _, rfl⟩

theorem WritesAccumulator.of_modifyA {f : Byte → Flags → AluOut} (answers : s.modifyA f = .next t) :
    s.WritesAccumulator t [] := by
  cases answers
  exact ⟨_, _, rfl⟩

theorem WritesAccumulator.frame (writes : s.WritesAccumulator t as) :
    t.sp = s.sp ∧ t.pc = s.pc ∧ s.sameRegsBut t [.a] ∧ s.sameControl t := by
  obtain ⟨v, f, rfl⟩ := writes
  obtain ⟨-, sp, pc, regs, control, -⟩ := load_frame s as .a v
  exact ⟨sp, pc, fun r away => (State.setFlags_getR8 _ f r).trans (regs r away), control⟩

theorem WritesAccumulator.readsOnly (writes : s.WritesAccumulator t as) : s.readsOnly t as := by
  obtain ⟨v, f, rfl⟩ := writes
  exact readsOnly_afterReads (sameBehind_trans (sameBehind_setR8 _ .a v) (sameBehind_setFlags _ f))

theorem WritesAccumulator.sameMemory (writes : s.WritesAccumulator t []) : s.sameMemory t := by
  obtain ⟨v, f, rfl⟩ := writes
  exact sameMemory_of_sameBehind (sameBehind_trans (s.sameBehind_setR8 .a v) (sameBehind_setFlags _ f))

end WritesAccumulator

end State

section accumulator

variable {s t : State} {op : AluOp} {o : Operand8} {v : Byte} {b : BitNum}

/-! What the forms of these families answer. -/

theorem exec_aluOf_eq_next (answers : exec (.aluOf op o) s = .next t) :
    ∃ v, t = accumulate op v (s.afterReads (s.operandReads o)) := by
  rw [exec_aluOf] at answers
  obtain ⟨p, read, last⟩ := Result.andThen_eq_next.mp answers
  rw [State.readOp8_eq_next read] at last
  cases last
  exact ⟨p.1, rfl⟩

theorem exec_bitOf_eq_next (answers : exec (.bitOf b o) s = .next t) :
    ∃ v, t = (s.afterReads (s.operandReads o)).setFlags (bitFlags b v s.flags) := by
  rw [exec_bitOf] at answers
  obtain ⟨p, read, last⟩ := Result.andThen_eq_next.mp answers
  rw [State.readOp8_eq_next read] at last
  cases last
  exact ⟨p.1, rfl⟩

theorem exec_aluImm_eq_next (answers : exec (.aluImm op v) s = .next t) : t = accumulate op v s := by
  rw [exec_aluImm] at answers
  cases answers
  rfl

theorem writesAccumulator_of_operand {i : Instr} (operand : i ∈ [Instr.aluOf op o, .bitOf b o])
    (answers : exec i s = .next t) : s.WritesAccumulator t (s.operandReads o) := by
  simp only [List.mem_cons, List.not_mem_nil, or_false] at operand
  rcases operand with rfl | rfl
  · obtain ⟨v, rfl⟩ := exec_aluOf_eq_next answers
    exact State.writesAccumulator_accumulate op v
  · obtain ⟨v, rfl⟩ := exec_bitOf_eq_next answers
    exact State.writesAccumulator_setFlags _

theorem writesAccumulator_of_no_operand {i : Instr}
    (listed : i ∈ [Instr.aluImm op v, .rlca, .rrca, .rla, .rra, .daa, .cpl, .scf, .ccf]) (answers : exec i s = .next t) :
    s.WritesAccumulator t [] := by
  simp only [List.mem_cons, List.not_mem_nil, or_false] at listed
  rcases listed with rfl | rfl | rfl | rfl | rfl | rfl | rfl | rfl | rfl
  · cases exec_aluImm_eq_next answers
    exact State.writesAccumulator_accumulate (as := []) op v
  iterate 5
    · exact State.WritesAccumulator.of_modifyA answers
  · cases answers
    exact ⟨_, _, rfl⟩
  · cases answers
    exact State.writesAccumulator_setFlags (as := []) _
  · cases answers
    exact State.writesAccumulator_setFlags (as := []) _

/-! What single instructions leave. -/

theorem accumulate_cp_regs : (accumulate .cp v s).regs = s.regs := rfl

theorem regs_of_flagWriter {i : Instr} (listed : i ∈ [Instr.aluOf .cp o, .aluImm .cp v, .bitOf b o, .scf, .ccf])
    (answers : exec i s = .next t) : t.regs = s.regs := by
  simp only [List.mem_cons, List.not_mem_nil, or_false] at listed
  rcases listed with rfl | rfl | rfl | rfl | rfl
  · obtain ⟨w, rfl⟩ := exec_aluOf_eq_next answers
    rw [accumulate_cp_regs, State.afterReads_regs]
  · rw [exec_aluImm_eq_next answers, accumulate_cp_regs]
  · obtain ⟨w, rfl⟩ := exec_bitOf_eq_next answers
    exact s.afterReads_regs _
  · cases answers; rfl
  · cases answers; rfl

theorem carry_of_bitOf_cpl {i : Instr} (listed : i ∈ [Instr.bitOf b o, .cpl]) (answers : exec i s = .next t) :
    t.flags.c = s.flags.c := by
  simp only [List.mem_cons, List.not_mem_nil, or_false] at listed
  rcases listed with rfl | rfl
  · obtain ⟨w, rfl⟩ := exec_bitOf_eq_next answers
    rfl
  · cases answers; rfl

theorem zero_of_flagOperation {i : Instr} (listed : i ∈ [Instr.cpl, .scf, .ccf]) (answers : exec i s = .next t) :
    t.flags.z = s.flags.z := by
  simp only [List.mem_cons, List.not_mem_nil, or_false] at listed
  rcases listed with rfl | rfl | rfl
  · cases answers; rfl
  · cases answers; rfl
  · cases answers; rfl

end accumulator

/-- Settles O56: each form reads its operand and then writes `A` and flags; what single forms leave follows from what each
answers. -/
theorem accumulatorFrame : Obligations.AccumulatorFrame := by
  unfold Obligations.AccumulatorFrame
  intro s t op o v b i listed answers
  have split : i ∈ [Instr.aluOf op o, .bitOf b o] ∨
      i ∈ [Instr.aluImm op v, .rlca, .rrca, .rla, .rra, .daa, .cpl, .scf, .ccf] := by
    simp only [List.mem_cons, List.not_mem_nil, or_false] at listed ⊢
    tauto
  have frame : t.sp = s.sp ∧ t.pc = s.pc ∧ s.sameRegsBut t [.a] ∧ s.sameControl t := by
    rcases split with operand | none
    · exact (writesAccumulator_of_operand operand answers).frame
    · exact (writesAccumulator_of_no_operand none answers).frame
  obtain ⟨sp, pc, regs, control⟩ := frame
  refine ⟨sp, pc, regs, control, fun operand => (writesAccumulator_of_operand operand answers).readsOnly,
    fun others => (writesAccumulator_of_no_operand (split.resolve_left others) answers).sameMemory,
    fun writer => regs_of_flagWriter writer answers, fun kept => carry_of_bitOf_cpl kept answers,
    fun kept => zero_of_flagOperation kept answers, fun daa => ?_⟩
  cases daa
  cases answers
  rfl

/-! Operations that write their operand back. -/

section modify

variable {s t : State} {o : Operand8} {f : Byte → Flags → AluOut}

theorem modify_reg_eq_next {r : Reg8} (answers : s.modify r.op f = .next t) :
    t = (s.setR8 r (f (s.getR8 r) s.flags).res).setFlags (f (s.getR8 r) s.flags).flags := by
  rw [State.modify_reg] at answers
  cases answers
  rfl

theorem modify_mHL_eq_next (answers : s.modify .mHL f = .next t) :
    t = ((s.afterRead s.hl).busWrite s.hl (f (s.busRead s.hl) s.flags).res).setFlags (f (s.busRead s.hl) s.flags).flags := by
  obtain ⟨p, read, rest⟩ := Result.andThen_eq_next.mp answers
  obtain ⟨can, rfl⟩ := State.memRead_eq_next.mp read
  obtain ⟨u, write, last⟩ := Result.andThen_eq_next.mp rest
  obtain ⟨-, rfl⟩ := State.memWrite_eq_next.mp write
  cases last
  rw [s.afterRead_hl]

/-- The flags are those the operation computes from the byte it read and the old flags. -/
theorem modify_flags (answers : s.modify o f = .next t) : ∃ v, t.flags = (f v s.flags).flags := by
  rcases State.operand_cases o with rfl | ⟨r, rfl⟩
  · exact ⟨_, by rw [modify_mHL_eq_next answers]; rfl⟩
  · exact ⟨_, by rw [modify_reg_eq_next answers]; rfl⟩

theorem modify_mHL_frame (answers : s.modify .mHL f = .next t) :
    t.regs = s.regs ∧ t.sp = s.sp ∧ t.pc = s.pc ∧ s.readsOnly (s.afterRead s.hl) [s.hl] ∧
      (s.afterRead s.hl).storesOnly t [s.hl] := by
  rw [modify_mHL_eq_next answers]
  exact ⟨by simp, by simp, by simp, State.readsOnly_afterReads (State.sameBehind_refl _),
    State.storesOnly_of_sameBehind (State.storesOnly_busWrite _ _ _) (State.sameBehind_setFlags _ _)⟩

theorem modify_reg_frame {r : Reg8} (answers : s.modify r.op f = .next t) :
    t.sp = s.sp ∧ t.pc = s.pc ∧ s.sameRegsBut t [r] ∧ s.sameMemory t := by
  rw [modify_reg_eq_next answers]
  exact ⟨by simp, by simp, fun q away => (State.setFlags_getR8 _ _ q).trans (s.sameRegsBut_setR8 r _ q away),
    State.sameMemory_of_sameBehind (State.sameBehind_trans (s.sameBehind_setR8 r _) (State.sameBehind_setFlags _ _))⟩

theorem modify_sp_pc (answers : s.modify o f = .next t) : t.sp = s.sp ∧ t.pc = s.pc := by
  rcases State.operand_cases o with rfl | ⟨r, rfl⟩
  · obtain ⟨-, sp, pc, -⟩ := modify_mHL_frame answers
    exact ⟨sp, pc⟩
  · obtain ⟨sp, pc, -⟩ := modify_reg_frame answers
    exact ⟨sp, pc⟩

theorem exec_eq_modify (s : State) {o : Operand8} {k : RotOp} {b : BitNum} {i : Instr}
    (listed : i ∈ [Instr.inc8 o, .dec8 o, .rotOf k o, .resOf b o, .setOf b o]) :
    ∃ f, exec i s = s.modify o f := by
  simp only [List.mem_cons, List.not_mem_nil, or_false] at listed
  rcases listed with rfl | rfl | rfl | rfl | rfl
  exacts [⟨_, exec_inc8 s o⟩, ⟨_, exec_dec8 s o⟩, ⟨_, exec_rotOf s k o⟩, ⟨_, exec_resOf s b o⟩, ⟨_, exec_setOf s b o⟩]

theorem carry_of_inc_dec {i : Instr} (listed : i ∈ [Instr.inc8 o, .dec8 o]) (answers : exec i s = .next t) :
    t.flags.c = s.flags.c := by
  simp only [List.mem_cons, List.not_mem_nil, or_false] at listed
  rcases listed with rfl | rfl
  · rw [exec_inc8] at answers
    obtain ⟨v, flags⟩ := modify_flags answers
    rw [flags]; rfl
  · rw [exec_dec8] at answers
    obtain ⟨v, flags⟩ := modify_flags answers
    rw [flags]; rfl

theorem flags_of_res_set {b : BitNum} {i : Instr} (listed : i ∈ [Instr.resOf b o, .setOf b o])
    (answers : exec i s = .next t) : t.flags = s.flags := by
  simp only [List.mem_cons, List.not_mem_nil, or_false] at listed
  rcases listed with rfl | rfl
  · rw [exec_resOf] at answers
    obtain ⟨v, flags⟩ := modify_flags answers
    exact flags
  · rw [exec_setOf] at answers
    obtain ⟨v, flags⟩ := modify_flags answers
    exact flags

end modify

/-- Settles O57: each form is `modify` with an operation of its own, on a register or at `HL`. -/
theorem readModifyWriteFrame : Obligations.ReadModifyWriteFrame := by
  unfold Obligations.ReadModifyWriteFrame
  intro s t o k b i listed answers
  obtain ⟨f, eq⟩ := exec_eq_modify s listed
  have modified : s.modify o f = .next t := eq.symm.trans answers
  obtain ⟨sp, pc⟩ := modify_sp_pc modified
  refine ⟨sp, pc, (State.plain_modify modified).2, fun atHL => ?_, fun r reg => ?_,
    fun kept => carry_of_inc_dec kept answers, fun kept => flags_of_res_set kept answers⟩
  · cases atHL
    obtain ⟨regs, -, -, reads, stores⟩ := modify_mHL_frame modified
    exact ⟨regs, reads, stores⟩
  · cases reg
    obtain ⟨-, -, regs, memory⟩ := modify_reg_frame modified
    exact ⟨regs, memory⟩

end Sys2Proof.Machine
end

section
/-! SUPPORT. Frames of the 16-bit instructions (41_load16_stack.md, 43_alu16.md). -/
namespace Sys2Proof.Machine

/-- The registers that a pair names; `SP` names none (R104, R105). -/
def pairRegs : Reg16 → List Reg8
  | .bc => [.b, .c]
  | .de => [.d, .e]
  | .hl => [.h, .l]
  | .sp => []

/-- The registers that a stack pair names; `F` is no register of its own (R106). -/
def stkRegs : Stk16 → List Reg8
  | .bc => [.b, .c]
  | .de => [.d, .e]
  | .hl => [.h, .l]
  | .af => [.a]

namespace State

variable (s : State)

theorem sameRegsBut_setBC (v : Word) : s.sameRegsBut (s.setBC v) [.b, .c] := by
  intro r away
  cases r
  case b | c => exact absurd (by decide) away
  all_goals rfl

theorem sameRegsBut_setDE (v : Word) : s.sameRegsBut (s.setDE v) [.d, .e] := by
  intro r away
  cases r
  case d | e => exact absurd (by decide) away
  all_goals rfl

theorem sameRegsBut_setAF (v : Word) : s.sameRegsBut (s.setAF v) [.a] := by
  intro r away
  cases r
  case a => exact absurd (by decide) away
  all_goals rfl

theorem sameRegsBut_setR16 (r : Reg16) (v : Word) : s.sameRegsBut (s.setR16 r v) (pairRegs r) := by
  cases r
  · exact s.sameRegsBut_setBC v
  · exact s.sameRegsBut_setDE v
  · exact s.sameRegsBut_setHL v
  · exact sameRegsBut_of_regs (s.setSp_regs v) []

theorem sameRegsBut_setStk (q : Stk16) (v : Word) : s.sameRegsBut (s.setStk q v) (stkRegs q) := by
  cases q
  · exact s.sameRegsBut_setBC v
  · exact s.sameRegsBut_setDE v
  · exact s.sameRegsBut_setHL v
  · exact s.sameRegsBut_setAF v

theorem setR16_flags (r : Reg16) (v : Word) : (s.setR16 r v).flags = s.flags := by cases r <;> rfl

theorem setR16_pc (r : Reg16) (v : Word) : (s.setR16 r v).pc = s.pc := by cases r <;> rfl

theorem setR16_sp {r : Reg16} (v : Word) (pair : r ≠ .sp) : (s.setR16 r v).sp = s.sp := by
  cases r
  case sp => exact absurd rfl pair
  all_goals rfl

theorem setStk_flags {q : Stk16} (v : Word) (pair : q ≠ .af) : (s.setStk q v).flags = s.flags := by
  cases q
  case af => exact absurd rfl pair
  all_goals rfl

end State

section forms

variable {s t : State} {r : Reg16} {q : Stk16} {w : Word} {e : Byte} {i : Instr}

theorem setR16_of_pairWrite (listed : i ∈ [Instr.ld16Imm r w, .inc16 r, .dec16 r]) (answers : exec i s = .next t) :
    ∃ v, t = s.setR16 r v := by
  simp only [List.mem_cons, List.not_mem_nil, or_false] at listed
  rcases listed with rfl | rfl | rfl
  · rw [exec_ld16Imm] at answers
    cases answers
    exact ⟨_, rfl⟩
  · rw [exec_inc16] at answers
    cases answers
    exact ⟨_, rfl⟩
  · rw [exec_dec16] at answers
    cases answers
    exact ⟨_, rfl⟩

theorem setHL_of_sum (listed : i ∈ [Instr.addHL r, .ld_HL_SPe8 e]) (answers : exec i s = .next t) :
    ∃ v f, t = (s.setHL v).setFlags f := by
  simp only [List.mem_cons, List.not_mem_nil, or_false] at listed
  rcases listed with rfl | rfl
  · rw [exec_addHL] at answers
    cases answers
    exact ⟨_, _, rfl⟩
  · cases answers
    exact ⟨_, _, rfl⟩

/-- ADD HL keeps Z, and N unless the argument clears it (R241, D10). -/
theorem addHL_flags (answers : exec (.addHL r) s = .next t) :
    t.flags.z = s.flags.z ∧ (s.params.addHlClearsN = false → t.flags.n = s.flags.n) := by
  rw [exec_addHL] at answers
  cases answers
  exact ⟨rfl, fun keeps => by simp [addToHL, addHlFlags, keeps]⟩

theorem setSp_of_spWrite (listed : i ∈ [Instr.add_SP_e8 e, .ld_SP_HL]) (answers : exec i s = .next t) :
    ∃ v f, t = (s.setSp v).setFlags f ∧ (i = .ld_SP_HL → f = s.flags) := by
  simp only [List.mem_cons, List.not_mem_nil, or_false] at listed
  rcases listed with rfl | rfl
  · cases answers
    exact ⟨_, _, rfl, fun other => by cases other⟩
  · cases answers
    exact ⟨s.hl, s.flags, rfl, fun _ => rfl⟩

theorem popOf_eq_next (answers : exec (.popOf q) s = .next t) :
    ∃ v, t = ((s.afterReads [s.sp, s.sp + 1#16]).setSp (s.sp + 2#16)).setStk q v := by
  rw [exec_popOf] at answers
  obtain ⟨p, popped, last⟩ := Result.andThen_eq_next.mp answers
  obtain ⟨-, -, rfl⟩ := State.pop16_eq_next.mp popped
  cases last
  exact ⟨_, rfl⟩

theorem pop_frame (answers : exec (.popOf q) s = .next t) :
    (q ≠ .af → t.flags = s.flags) ∧ t.pc = s.pc ∧ s.sameRegsBut t (stkRegs q) ∧ s.sameControl t ∧
      s.readsOnly t [s.sp, s.sp + 1#16] := by
  have control := (plain_pop ((exec_popOf s q).symm.trans answers)).2
  obtain ⟨v, rfl⟩ := popOf_eq_next answers
  refine ⟨fun pair => (State.setStk_flags _ v pair).trans ?_, (State.setStk_sp_pc _ v q).2.trans ?_,
    State.sameRegsBut_trans (rs := []) (State.sameRegsBut_of_regs ?_ []) (State.sameRegsBut_setStk _ q v), control,
    State.readsOnly_afterReads (State.sameBehind_trans (State.sameBehind_setSp _ _) (State.sameBehind_setStk _ q v))⟩
  · exact s.afterReads_flags _
  · exact s.afterReads_pc _
  · exact s.afterReads_regs _

theorem push16_frame {v : Word} (answers : s.push16 v = .next t) :
    t.regs = s.regs ∧ t.flags = s.flags ∧ t.pc = s.pc ∧ s.sameControl t ∧
      s.storesOnly t [s.sp - 1#16, s.sp - 2#16] := by
  obtain ⟨-, -, rfl⟩ := State.push16_eq_next.mp answers
  exact ⟨s.pushed_regs v, s.pushed_flags v, s.pushed_pc v, s.sameControl_pushed v, s.storesOnly_pushed v⟩

theorem storeSP_frame (answers : storeSP w s = .next t) :
    t.regs = s.regs ∧ t.flags = s.flags ∧ t.sp = s.sp ∧ t.pc = s.pc ∧ s.sameControl t ∧ s.storesOnly t [w, w + 1#16] := by
  have control := (plain_storeSP answers).2
  obtain ⟨u, first, second⟩ := Result.andThen_eq_next.mp answers
  obtain ⟨-, rfl⟩ := State.memWrite_eq_next.mp first
  obtain ⟨-, rfl⟩ := State.memWrite_eq_next.mp second
  exact ⟨by simp, by simp, by simp, by simp, control, State.storesOnly_trans
    (State.storesOnly_mono (s.storesOnly_busWrite w _) (by simp))
    (State.storesOnly_mono (State.storesOnly_busWrite _ (w + 1#16) _) (by simp))⟩

end forms

/-- Settles O58: each family's answer is written out, register writes after the reads or two stores. -/
theorem wordFrame : Obligations.WordFrame := by
  unfold Obligations.WordFrame
  intro s t r q w e regsOf regsOfStk
  refine ⟨fun i listed answers => ?_, fun i listed answers => ?_, fun i listed answers => ?_, pop_frame,
    fun answers => push16_frame ((exec_pushOf s q).symm.trans answers), storeSP_frame⟩
  · obtain ⟨v, rfl⟩ := setR16_of_pairWrite listed answers
    exact ⟨s.setR16_flags r v, s.setR16_sp v, s.setR16_pc r v, s.sameRegsBut_setR16 r v, s.sameControl_setR16 r v,
      State.sameMemory_of_sameBehind (s.sameBehind_setR16 r v)⟩
  · obtain ⟨v, f, eq⟩ := setHL_of_sum listed answers
    refine ⟨?_, ?_, ?_, ?_, ?_, fun add => by cases add; exact addHL_flags answers⟩
    all_goals rw [eq]
    · rfl
    · rfl
    · exact fun r away => (State.setFlags_getR8 _ f r).trans (s.sameRegsBut_setHL v r away)
    · exact ((s.plain_setHL v).trans (State.plain_setFlags _ f)).2
    · exact State.sameMemory_of_sameBehind (s.sameBehind_setHL v)
  · obtain ⟨v, f, rfl, kept⟩ := setSp_of_spWrite listed answers
    exact ⟨rfl, rfl, s.sameControl_setSp v, State.sameMemory_of_sameBehind (s.sameBehind_setSp v), kept⟩

end Sys2Proof.Machine
end

section
/-! SUPPORT. Frames of control transfer and CPU control (45_control_flow.md, 46_cpu_control.md). -/
namespace Sys2Proof.Machine

section forms

variable {s t : State} {k : Cond} {n : RstTarget} {a : Word} {v : Byte} {i : Instr}

theorem setPc_of_jump (listed : i ∈ [Instr.jp_a16 a, .jpCond k a, .jp_HL, .jr_e8 v, .jrCond k v])
    (answers : exec i s = .next t) : ∃ target, t = s.setPc target := by
  simp only [List.mem_cons, List.not_mem_nil, or_false] at listed
  rcases listed with rfl | rfl | rfl | rfl | rfl
  · cases answers; exact ⟨_, rfl⟩
  · rw [exec_jpCond, jumpIf_eq] at answers
    cases answers; exact ⟨_, rfl⟩
  · cases answers; exact ⟨_, rfl⟩
  · cases answers; exact ⟨_, rfl⟩
  · rw [exec_jrCond, jumpIf_eq] at answers
    cases answers; exact ⟨_, rfl⟩

theorem call_eq_next (answers : call a s = .next t) : t = (s.pushed s.pc).setPc a := by
  obtain ⟨u, push, last⟩ := Result.andThen_eq_next.mp answers
  obtain ⟨-, -, rfl⟩ := State.push16_eq_next.mp push
  cases last
  rfl

theorem ret_eq_next (answers : ret s = .next t) :
    ∃ target, t = ((s.afterReads [s.sp, s.sp + 1#16]).setSp (s.sp + 2#16)).setPc target := by
  obtain ⟨p, popped, last⟩ := Result.andThen_eq_next.mp answers
  obtain ⟨-, -, rfl⟩ := State.pop16_eq_next.mp popped
  cases last
  exact ⟨_, rfl⟩

/-- RETI is RET that sets IME as well (R310). -/
theorem reti_eq_next (answers : exec .reti s = .next t) :
    ∃ target, t = { ((s.afterReads [s.sp, s.sp + 1#16]).setSp (s.sp + 2#16)).setPc target with ime := true } := by
  have run : s.returnFromInterrupt = .next t := answers
  obtain ⟨p, popped, last⟩ := Result.andThen_eq_next.mp run
  obtain ⟨-, -, rfl⟩ := State.pop16_eq_next.mp popped
  cases last
  exact ⟨word16 ((s.afterRead s.sp).busRead (s.sp + 1#16)) (s.busRead s.sp), rfl⟩

/-- A conditional form does what its unconditional form does, or nothing. -/
theorem callIf_eq_next (answers : callIf k a s = .next t) : call a s = .next t ∨ t = s := by
  unfold callIf at answers
  split at answers
  · exact .inl answers
  · cases answers; exact .inr rfl

theorem retIf_eq_next (answers : retIf k s = .next t) : ret s = .next t ∨ t = s := by
  unfold retIf at answers
  split at answers
  · exact .inl answers
  · cases answers; exact .inr rfl

theorem call_of_listed (listed : i ∈ [Instr.call_a16 a, .callCond k a, .rstOf n]) (answers : exec i s = .next t) :
    (∃ target, t = (s.pushed s.pc).setPc target) ∨ i = .callCond k a ∧ t = s := by
  simp only [List.mem_cons, List.not_mem_nil, or_false] at listed
  rcases listed with rfl | rfl | rfl
  · exact .inl ⟨a, call_eq_next answers⟩
  · rw [exec_callCond] at answers
    rcases callIf_eq_next answers with calls | same
    · exact .inl ⟨a, call_eq_next calls⟩
    · exact .inr ⟨rfl, same⟩
  · rw [exec_rstOf] at answers
    exact .inl ⟨n.address, call_eq_next answers⟩

theorem ret_of_listed (listed : i ∈ [Instr.ret, .retCond k]) (answers : exec i s = .next t) :
    (∃ target, t = ((s.afterReads [s.sp, s.sp + 1#16]).setSp (s.sp + 2#16)).setPc target) ∨ i = .retCond k ∧ t = s := by
  simp only [List.mem_cons, List.not_mem_nil, or_false] at listed
  rcases listed with rfl | rfl
  · exact .inl (ret_eq_next answers)
  · rw [exec_retCond] at answers
    rcases retIf_eq_next answers with returns | same
    · exact .inl (ret_eq_next returns)
    · exact .inr ⟨rfl, same⟩

theorem ret_frame {target : Word} (eq : t = ((s.afterReads [s.sp, s.sp + 1#16]).setSp (s.sp + 2#16)).setPc target) :
    t.regs = s.regs ∧ t.flags = s.flags ∧ s.sameControl t ∧ t.sp = s.sp + 2#16 ∧ s.readsOnly t [s.sp, s.sp + 1#16] := by
  subst eq
  exact ⟨s.afterReads_regs _, s.afterReads_flags _,
    (((s.plain_afterReads _).trans (State.plain_setSp _ _)).trans (State.plain_setPc _ target)).2, rfl,
    State.readsOnly_afterReads (State.sameBehind_trans (State.sameBehind_setSp _ _) (State.sameBehind_setPc _ _))⟩

/-! HALT, with and without the halt bug (R331). -/

theorem halt_eq_next (answers : exec .halt s = .next t) :
    t = { s with halted := true } ∨ t = { s.afterRead s.pc with halted := true, hq := some (s.busRead s.pc) } := by
  have run : halt s = .next t := answers
  unfold halt at run
  split at run
  · obtain ⟨p, read, last⟩ := Result.andThen_eq_next.mp run
    obtain ⟨-, rfl⟩ := State.memRead_eq_next.mp read
    cases last
    exact .inr rfl
  · cases run
    exact .inl rfl

theorem halt_frame (answers : exec .halt s = .next t) :
    t.regs = s.regs ∧ t.flags = s.flags ∧ t.sp = s.sp ∧ t.pc = s.pc ∧ t.irqIn = s.irqIn ∧ t.params = s.params ∧
      (s.sameMemory t ∨ t.hq = some (s.busRead s.pc) ∧ s.readsOnly t [s.pc]) := by
  rcases halt_eq_next answers with rfl | rfl
  · exact ⟨rfl, rfl, rfl, rfl, rfl, rfl, .inl (State.sameMemory_of_sameBehind s.sameBehind_refl)⟩
  · exact ⟨s.afterRead_regs _, s.afterRead_flags _, s.afterRead_sp _, s.afterRead_pc _, s.afterRead_irqIn _,
      s.afterRead_params _, .inr ⟨rfl, State.readsOnly_afterReads (State.sameBehind_refl _)⟩⟩

theorem halt_ime (answers : exec .halt s = .next t) : t.ime = s.ime ∧ t.imePending = s.imePending := by
  rcases halt_eq_next answers with rfl | rfl
  · exact ⟨rfl, rfl⟩
  · exact ⟨s.afterRead_ime _, s.afterRead_imePending _⟩

/-- DI and EI write IME and its delay alone (R333, R334). -/
theorem enables_eq_next (listed : i ∈ [Instr.di, .ei]) (answers : exec i s = .next t) :
    ∃ ime imePending, t = { s with ime := ime, imePending := imePending } := by
  simp only [List.mem_cons, List.not_mem_nil, or_false] at listed
  rcases listed with rfl | rfl
  · cases answers; exact ⟨_, _, rfl⟩
  · have run : Host.Outcome.next (enableInterrupts s) = .next t := answers
    cases run
    unfold enableInterrupts
    split
    · exact ⟨s.ime, true, rfl⟩
    · exact ⟨true, s.imePending, rfl⟩

theorem same_of_nop_stop (listed : i ∈ [Instr.nop, .stop v]) (answers : exec i s = .next t) : t = s := by
  simp only [List.mem_cons, List.not_mem_nil, or_false] at listed
  rcases listed with rfl | rfl
  · cases answers; rfl
  · have run : stop s = .next t := answers
    unfold stop at run
    split at run
    case h_2 => cases run; rfl
    all_goals cases run

theorem cpuControl_frame (listed : i ∈ [Instr.nop, .halt, .stop v, .di, .ei]) (answers : exec i s = .next t) :
    t.regs = s.regs ∧ t.flags = s.flags ∧ t.sp = s.sp ∧ t.pc = s.pc ∧ t.irqIn = s.irqIn ∧ t.params = s.params ∧
      (s.sameMemory t ∨ i = .halt ∧ t.hq = some (s.busRead s.pc) ∧ s.readsOnly t [s.pc]) := by
  have split : i = .halt ∨ i ∈ [Instr.nop, .stop v] ∨ i ∈ [Instr.di, .ei] := by
    simp only [List.mem_cons, List.not_mem_nil, or_false] at listed ⊢
    tauto
  rcases split with rfl | still | enables
  · obtain ⟨regs, flags, sp, pc, irqIn, params, memory⟩ := halt_frame answers
    exact ⟨regs, flags, sp, pc, irqIn, params, memory.imp_right fun bug => ⟨rfl, bug⟩⟩
  · cases same_of_nop_stop still answers
    exact ⟨rfl, rfl, rfl, rfl, rfl, rfl, .inl (State.sameMemory_of_sameBehind s.sameBehind_refl)⟩
  · obtain ⟨ime, imePending, rfl⟩ := enables_eq_next enables answers
    exact ⟨rfl, rfl, rfl, rfl, rfl, rfl, .inl (State.sameMemory_of_sameBehind s.sameBehind_refl)⟩

end forms

/-- Settles O59: jumps write the pc; calls push, returns pop, and a failed condition leaves the state; the others write control
state alone, HALT after the read of the byte it queues. -/
theorem controlFrame : Obligations.ControlFrame := by
  unfold Obligations.ControlFrame
  intro s t k n a v
  refine ⟨fun i listed answers => ?_, fun i listed answers => ?_, fun i listed answers => ?_, fun i listed answers => ?_⟩
  · obtain ⟨target, rfl⟩ := setPc_of_jump listed answers
    exact ⟨rfl, rfl, rfl, s.sameControl_setPc target, State.sameMemory_of_sameBehind (s.sameBehind_setPc target)⟩
  · rcases call_of_listed listed answers with ⟨target, rfl⟩ | ⟨cond, rfl⟩
    · exact ⟨s.pushed_regs s.pc, s.pushed_flags s.pc, ((s.plain_pushed s.pc).trans (State.plain_setPc _ target)).2,
        .inl ⟨s.pushed_sp s.pc, State.storesOnly_of_sameBehind (s.storesOnly_pushed s.pc) (State.sameBehind_setPc _ _)⟩⟩
    · exact ⟨rfl, rfl, t.sameControl_refl, .inr ⟨cond, rfl⟩⟩
  · have split : i = .reti ∨ i ∈ [Instr.ret, .retCond k] := by
      simp only [List.mem_cons, List.not_mem_nil, or_false] at listed ⊢
      tauto
    rcases split with rfl | returns
    · obtain ⟨target, rfl⟩ := reti_eq_next answers
      obtain ⟨regs, flags, ⟨-, control⟩, sp, reads⟩ := ret_frame (s := s) (target := target) rfl
      exact ⟨regs, flags, ⟨rfl, control⟩, fun other => absurd rfl other, .inl ⟨sp, reads⟩⟩
    · rcases ret_of_listed returns answers with ⟨target, eq⟩ | ⟨cond, rfl⟩
      · obtain ⟨regs, flags, ⟨ime, control⟩, sp, reads⟩ := ret_frame eq
        exact ⟨regs, flags, ⟨rfl, control⟩, fun _ => ime, .inl ⟨sp, reads⟩⟩
      · exact ⟨rfl, rfl, t.sameControl_refl, fun _ => rfl, .inr ⟨cond, rfl⟩⟩
  · obtain ⟨regs, flags, sp, pc, irqIn, params, memory⟩ := cpuControl_frame listed answers
    refine ⟨regs, flags, sp, pc, irqIn, params, memory, fun still => same_of_nop_stop still answers, fun halt => ?_,
      fun enables => ?_⟩
    · cases halt
      exact halt_ime answers
    · obtain ⟨ime, imePending, rfl⟩ := enables_eq_next enables answers
      exact ⟨rfl, rfl⟩

end Sys2Proof.Machine
end

section
/-! SUPPORT. What only some instructions do (10_state.md R24 to R28, 90_conflicts.md C9): over all forms, who may move `SP` and the
pc, and who may write IME, its delay, `halted` and the queue. -/
namespace Sys2Proof.Machine

/-- The instructions that may write `SP` (R24, C9). -/
def MovesSp (i : Instr) : Prop :=
  (∃ w, i = .ld_SP_d16 w) ∨ (∃ e, i = .add_SP_e8 e) ∨ i ∈ [Instr.ld_SP_HL, .inc_SP, .dec_SP] ∨
    (∃ q, i = .pushOf q ∨ i = .popOf q) ∨ (∃ a, i = .call_a16 a ∨ ∃ k, i = .callCond k a) ∨ (∃ n, i = .rstOf n) ∨
    i ∈ [Instr.ret, .reti] ∨ ∃ k, i = .retCond k

/-- The control transfers (45_control_flow.md). -/
def MovesPc (i : Instr) : Prop :=
  (∃ a, i = .jp_a16 a ∨ i = .call_a16 a ∨ ∃ k, i = .jpCond k a ∨ i = .callCond k a) ∨
    (∃ e, i = .jr_e8 e ∨ ∃ k, i = .jrCond k e) ∨ (∃ n, i = .rstOf n) ∨ i ∈ [Instr.jp_HL, .ret, .reti] ∨
    ∃ k, i = .retCond k

section moves

/-! The movers, by name. -/

theorem movesSp_ld_SP_d16 (w : Word) : MovesSp (.ld_SP_d16 w) := .inl ⟨w, rfl⟩
theorem movesSp_add_SP_e8 (e : Byte) : MovesSp (.add_SP_e8 e) := .inr (.inl ⟨e, rfl⟩)
theorem movesSp_of_mem {i : Instr} (listed : i ∈ [Instr.ld_SP_HL, .inc_SP, .dec_SP]) : MovesSp i := .inr (.inr (.inl listed))
theorem movesSp_pushOf (q : Stk16) : MovesSp (.pushOf q) := .inr (.inr (.inr (.inl ⟨q, .inl rfl⟩)))
theorem movesSp_popOf (q : Stk16) : MovesSp (.popOf q) := .inr (.inr (.inr (.inl ⟨q, .inr rfl⟩)))

theorem moves_call_a16 (a : Word) : MovesSp (.call_a16 a) ∧ MovesPc (.call_a16 a) :=
  ⟨.inr (.inr (.inr (.inr (.inl ⟨a, .inl rfl⟩)))), .inl ⟨a, .inr (.inl rfl)⟩⟩

theorem moves_callCond (k : Cond) (a : Word) : MovesSp (.callCond k a) ∧ MovesPc (.callCond k a) :=
  ⟨.inr (.inr (.inr (.inr (.inl ⟨a, .inr ⟨k, rfl⟩⟩)))), .inl ⟨a, .inr (.inr ⟨k, .inr rfl⟩)⟩⟩

theorem moves_rstOf (n : RstTarget) : MovesSp (.rstOf n) ∧ MovesPc (.rstOf n) :=
  ⟨.inr (.inr (.inr (.inr (.inr (.inl ⟨n, rfl⟩))))), .inr (.inr (.inl ⟨n, rfl⟩))⟩

theorem moves_ret : MovesSp .ret ∧ MovesPc .ret :=
  ⟨.inr (.inr (.inr (.inr (.inr (.inr (.inl (by decide))))))), .inr (.inr (.inr (.inl (by decide))))⟩

theorem moves_reti : MovesSp .reti ∧ MovesPc .reti :=
  ⟨.inr (.inr (.inr (.inr (.inr (.inr (.inl (by decide))))))), .inr (.inr (.inr (.inl (by decide))))⟩

theorem moves_retCond (k : Cond) : MovesSp (.retCond k) ∧ MovesPc (.retCond k) :=
  ⟨.inr (.inr (.inr (.inr (.inr (.inr (.inr ⟨k, rfl⟩)))))), .inr (.inr (.inr (.inr ⟨k, rfl⟩)))⟩

theorem movesPc_jump {i : Instr} {k : Cond} {a : Word} {e : Byte}
    (listed : i ∈ [Instr.jp_a16 a, .jpCond k a, .jp_HL, .jr_e8 e, .jrCond k e]) : MovesPc i := by
  simp only [List.mem_cons, List.not_mem_nil, or_false] at listed
  rcases listed with rfl | rfl | rfl | rfl | rfl
  · exact .inl ⟨a, .inl rfl⟩
  · exact .inl ⟨a, .inr (.inr ⟨k, .inl rfl⟩)⟩
  · exact .inr (.inr (.inr (.inl (by decide))))
  · exact .inr (.inl ⟨e, .inl rfl⟩)
  · exact .inr (.inl ⟨e, .inr ⟨k, rfl⟩⟩)

/-- `SP` moves only under a mover of `SP`, the pc only under a mover of the pc. -/
def Moves (i : Instr) (s t : State) : Prop := (t.sp = s.sp ∨ MovesSp i) ∧ (t.pc = s.pc ∨ MovesPc i)

variable {s t : State} {i : Instr}

theorem moves_of_same (sp : t.sp = s.sp) (pc : t.pc = s.pc) : Moves i s t := ⟨.inl sp, .inl pc⟩

theorem moves_of_transfer (movers : MovesSp i ∧ MovesPc i) : Moves i s t := ⟨.inr movers.1, .inr movers.2⟩

theorem moves_of_pair {r : Reg16} {w : Word} (listed : i ∈ [Instr.ld16Imm r w, .inc16 r, .dec16 r])
    (answers : exec i s = .next t) : Moves i s t := by
  obtain ⟨v, rfl⟩ := setR16_of_pairWrite listed answers
  by_cases pair : r = .sp
  · cases pair
    refine ⟨.inr ?_, .inl (s.setR16_pc .sp v)⟩
    simp only [List.mem_cons, List.not_mem_nil, or_false] at listed
    rcases listed with rfl | rfl | rfl
    · exact movesSp_ld_SP_d16 w
    · exact movesSp_of_mem (by decide)
    · exact movesSp_of_mem (by decide)
  · exact moves_of_same (s.setR16_sp v pair) (s.setR16_pc r v)

theorem writeOp8_sp_pc {o : Operand8} {v : Byte} (answers : s.writeOp8 o v = .next t) : t.sp = s.sp ∧ t.pc = s.pc := by
  rcases State.operand_cases o with rfl | ⟨r, rfl⟩
  · obtain ⟨-, sp, pc, -⟩ := memWrite_frame answers
    exact ⟨sp, pc⟩
  · rw [State.writeOp8_reg] at answers
    cases answers
    exact ⟨by simp, by simp⟩

theorem ld8_sp_pc {k o : Operand8} (answers : ld8 k o s = .next t) : t.sp = s.sp ∧ t.pc = s.pc := by
  obtain ⟨p, read, write⟩ := Result.andThen_eq_next.mp answers
  rw [State.readOp8_eq_next read] at write
  obtain ⟨sp, pc⟩ := writeOp8_sp_pc write
  exact ⟨sp.trans (s.afterReads_sp _), pc.trans (s.afterReads_pc _)⟩

theorem loadA_moves {a : Word} (answers : s.loadA a = .next t) : Moves i s t := by
  obtain ⟨-, sp, pc, -⟩ := loadA_frame answers
  exact moves_of_same sp pc

theorem memWrite_moves {a : Word} {v : Byte} (answers : s.memWrite a v = .next t) : Moves i s t := by
  obtain ⟨-, sp, pc, -⟩ := memWrite_frame answers
  exact moves_of_same sp pc

theorem loadStep_moves {d : Word} (answers : loadStep d s = .next t) : Moves i s t := by
  obtain ⟨-, sp, pc, -⟩ := loadStep_frame answers
  exact moves_of_same sp pc

theorem storeStep_moves {d : Word} (answers : storeStep d s = .next t) : Moves i s t := by
  obtain ⟨-, sp, pc, -⟩ := storeStep_frame answers
  exact moves_of_same sp pc

theorem modify_moves {o : Operand8} {f : Byte → Flags → AluOut} (answers : s.modify o f = .next t) : Moves i s t := by
  obtain ⟨sp, pc⟩ := modify_sp_pc answers
  exact moves_of_same sp pc

theorem writesAccumulator_moves {as : List Word} (writes : s.WritesAccumulator t as) : Moves i s t := by
  obtain ⟨sp, pc, -⟩ := writes.frame
  exact moves_of_same sp pc

theorem modifyA_moves {f : Byte → Flags → AluOut} (answers : s.modifyA f = .next t) : Moves i s t :=
  writesAccumulator_moves (.of_modifyA answers)

theorem sum_moves {r : Reg16} {e : Byte} (listed : i ∈ [Instr.addHL r, .ld_HL_SPe8 e]) (answers : exec i s = .next t) :
    Moves i s t := by
  obtain ⟨v, f, rfl⟩ := setHL_of_sum listed answers
  exact moves_of_same rfl rfl

theorem jump_moves {k : Cond} {a : Word} {e : Byte} (listed : i ∈ [Instr.jp_a16 a, .jpCond k a, .jp_HL, .jr_e8 e, .jrCond k e])
    (answers : exec i s = .next t) : Moves i s t := by
  obtain ⟨target, rfl⟩ := setPc_of_jump listed answers
  exact ⟨.inl rfl, .inr (movesPc_jump listed)⟩

theorem cpuControl_moves {v : Byte} (listed : i ∈ [Instr.nop, .halt, .stop v, .di, .ei]) (answers : exec i s = .next t) :
    Moves i s t := by
  obtain ⟨-, -, sp, pc, -⟩ := cpuControl_frame listed answers
  exact moves_of_same sp pc

theorem exec_moves (i : Instr) (answers : exec i s = .next t) : Moves i s t := by
  cases form i with
  | ld8 k o other =>
    rw [exec_ld8 s k o other] at answers
    obtain ⟨sp, pc⟩ := ld8_sp_pc answers
    exact moves_of_same sp pc
  | ld8Imm k v =>
    rw [exec_ld8Imm] at answers
    obtain ⟨sp, pc⟩ := writeOp8_sp_pc answers
    exact moves_of_same sp pc
  | ld16Imm k w => exact moves_of_pair (r := k) (w := w) (by simp) answers
  | inc16 k | dec16 k => exact moves_of_pair (r := k) (w := 0#16) (by simp) answers
  | pushOf q =>
    obtain ⟨-, -, pc, -⟩ := push16_frame ((exec_pushOf s q).symm.trans answers)
    exact ⟨.inr (movesSp_pushOf q), .inl pc⟩
  | popOf q =>
    obtain ⟨-, pc, -⟩ := pop_frame answers
    exact ⟨.inr (movesSp_popOf q), .inl pc⟩
  | aluOf k o => exact writesAccumulator_moves (writesAccumulator_of_operand (op := k) (o := o) (b := .b0) (by simp) answers)
  | bitOf k o => exact writesAccumulator_moves (writesAccumulator_of_operand (op := .add) (o := o) (b := k) (by simp) answers)
  | aluImm k v => exact writesAccumulator_moves (writesAccumulator_of_no_operand (op := k) (v := v) (by simp) answers)
  | cpl | scf | ccf => exact writesAccumulator_moves (writesAccumulator_of_no_operand (op := .add) (v := 0#8) (by simp) answers)
  | rlca | rrca | rla | rra | daa => exact modifyA_moves answers
  | inc8 k => exact modify_moves ((exec_inc8 s k).symm.trans answers)
  | dec8 k => exact modify_moves ((exec_dec8 s k).symm.trans answers)
  | rotOf k o => exact modify_moves ((exec_rotOf s k o).symm.trans answers)
  | resOf k o => exact modify_moves ((exec_resOf s k o).symm.trans answers)
  | setOf k o => exact modify_moves ((exec_setOf s k o).symm.trans answers)
  | addHL k => exact sum_moves (r := k) (e := 0#8) (by simp) answers
  | ld_HL_SPe8 e => exact sum_moves (r := .bc) (e := e) (by simp) answers
  | jpCond k a => exact jump_moves (k := k) (a := a) (e := 0#8) (by simp) answers
  | jrCond k e => exact jump_moves (k := k) (a := 0#16) (e := e) (by simp) answers
  | jp_a16 a => exact jump_moves (k := .z) (a := a) (e := 0#8) (by simp) answers
  | jr_e8 e => exact jump_moves (k := .z) (a := 0#16) (e := e) (by simp) answers
  | jp_HL => exact jump_moves (k := .z) (a := 0#16) (e := 0#8) (by simp) answers
  | callCond k a => exact moves_of_transfer (moves_callCond k a)
  | call_a16 a => exact moves_of_transfer (moves_call_a16 a)
  | rstOf n => exact moves_of_transfer (moves_rstOf n)
  | retCond k => exact moves_of_transfer (moves_retCond k)
  | ret => exact moves_of_transfer moves_ret
  | reti => exact moves_of_transfer moves_reti
  | ld_ma16_SP a =>
    obtain ⟨-, -, sp, pc, -⟩ := storeSP_frame answers
    exact moves_of_same sp pc
  | ldh_ma8_A | ld_ma16_A | ld_mBC_A | ld_mDE_A | ldh_mC_A => exact memWrite_moves answers
  | ldh_A_ma8 | ld_A_ma16 | ld_A_mBC | ld_A_mDE | ldh_A_mC => exact loadA_moves answers
  | ld_mHLi_A | ld_mHLd_A => exact storeStep_moves answers
  | ld_A_mHLi | ld_A_mHLd => exact loadStep_moves answers
  | add_SP_e8 e => cases answers; exact ⟨.inr (movesSp_add_SP_e8 e), .inl rfl⟩
  | ld_SP_HL => cases answers; exact ⟨.inr (movesSp_of_mem (by decide)), .inl rfl⟩
  | stop v => exact cpuControl_moves (v := v) (by simp) answers
  | nop | halt | di | ei => exact cpuControl_moves (v := 0#8) (by simp) answers
  | undefined i op malformed faults => rw [faults] at answers; cases answers

/-! Control state. -/

theorem ime_of_others (answers : exec i s = .next t) (others : i ∉ [Instr.di, .ei, .reti]) :
    t.ime = s.ime ∧ t.imePending = s.imePending := by
  simp only [List.mem_cons, List.not_mem_nil, or_false, not_or] at others
  obtain ⟨di, ei, reti⟩ := others
  by_cases halts : i = .halt
  · cases halts
    exact halt_ime answers
  · obtain ⟨ime, imePending, -⟩ := (exec_plain answers).2 halts di ei reti
    exact ⟨ime, imePending⟩

/-- DI clears IME, so no other instruction raises it (R333). -/
theorem ime_raised (answers : exec i s = .next t) (raised : t.ime = true) (clear : s.ime = false) :
    i ∈ [Instr.ei, .reti] := by
  by_contra others
  by_cases di : i = .di
  · cases di
    cases answers
    cases raised
  · obtain ⟨same, -⟩ := ime_of_others answers (List.not_mem_cons_of_ne_of_not_mem di others)
    rw [raised, clear] at same
    cases same

theorem halted_of_others (answers : exec i s = .next t) (others : i ≠ .halt) : t.halted = s.halted ∧ t.hq = s.hq := by
  by_cases enables : i ∈ [Instr.di, .ei]
  · obtain ⟨ime, imePending, rfl⟩ := enables_eq_next enables answers
    exact ⟨rfl, rfl⟩
  · by_cases reti : i = .reti
    · cases reti
      obtain ⟨target, rfl⟩ := reti_eq_next answers
      exact ⟨s.afterReads_halted _, s.afterReads_hq _⟩
    · simp only [List.mem_cons, List.not_mem_nil, or_false, not_or] at enables
      obtain ⟨di, ei⟩ := enables
      obtain ⟨-, -, halted, hq, -⟩ := (exec_plain answers).2 others di ei reti
      exact ⟨halted, hq⟩

end moves

/-- Settles O60: `SP` and the pc by the forms, IME and `halted` by what the four control instructions answer, the display and
the timer by what every instruction keeps. -/
theorem onlyTheseChangeControlState : Obligations.OnlyTheseChangeControlState := by
  unfold Obligations.OnlyTheseChangeControlState
  intro i s t answers
  obtain ⟨sp, pc⟩ := exec_moves i answers
  have kept := (exec_plain answers).1
  refine ⟨sp.resolve_left, pc.resolve_left, fun changed => ?_, ime_raised answers, fun changed => ?_, kept.mode, kept.dot,
    kept.ly, kept.frame, kept.windowLine, kept.latch0, kept.latch1, kept.latch2, kept.latchL, kept.timaAcc, kept.divAcc⟩
  · by_contra others
    obtain ⟨ime, imePending⟩ := ime_of_others answers others
    exact changed.elim (· ime) (· imePending)
  · by_contra others
    obtain ⟨halted, hq⟩ := halted_of_others answers others
    exact changed.elim (· halted) (· hq)

end Sys2Proof.Machine
end
